-- ==== Sys2Proof/Word.lean ====
section
/-!
DEFINITION. The word types of the block: a Q7 sample or lane, a register, a data address.
-/

namespace Sys2Proof

/-- A lane or Q7 sample: `LANE_W = 8` bits (00_scope.md R4). -/
abbrev Byte := BitVec 8

/-- An interface register, a command word or a packed group: `REG_W = 32` bits, four lanes (00_scope.md R5, R6). -/
abbrev Word := BitVec 32

/-- A byte address of the data space: `ADDR_W = 32` bits (00_scope.md R8). -/
abbrev Addr := BitVec 32

end Sys2Proof
end

