-- ==== Sys2Proof/Config.lean ====
section
/-!
DEFINITION. What an implementation or a platform fixes (the OPEN parameters of 00_scope.md R7 and R9), as plain data,
and the free values: opaque constants without a body for what the spec leaves unspecified.
-/

namespace Sys2Proof

/-- A half-open range of data addresses, `base` up to but not including `base + size`. -/
structure AddrRange where
  base : Nat
  size : Nat
deriving DecidableEq, Repr

/-- The parameters "the model takes as an argument" (00_scope.md R7, R9). They are a field of the state that no step
changes, so a statement over every state is a statement over every value of them (DESIGN CHOICE, log 1). -/
structure Params where
  /-- `HAS_PACKED`: whether the packed unit exists (00_scope.md R7). -/
  hasPacked : Bool
  /-- `BLOCK_BASE / 256`. `BLOCK_BASE` "must be a multiple of 256" (00_scope.md R9), and kept this way it is one (log 2). -/
  blockPage : BitVec 24
  /-- The data bytes `MEM_ADMIT` admits, apart from the register window, as a union of ranges (00_scope.md R9, log 3). -/
  admitted : List AddrRange
deriving DecidableEq, Repr

/-- The parameters that `State.reset` carries. DESIGN CHOICE (log 1): the spec leaves all three OPEN. The packed unit
is present, the window lies at address 0, and the platform admits every other byte. -/
def Params.atReset : Params where
  hasPacked := true
  blockPage := 0
  admitted := [⟨0, 2 ^ 32⟩]

/-- Free value: the byte a data address holds at power-up, which "is unspecified" (10_state.md R44; log 4). -/
opaque Config.powerUpByte : Addr → Byte

/-- Free value: what the internal register LG holds after a reset event or between sequencer steps
(10_state.md R36, 93_implementation_defined.md row 10; log 5). Applied to a fresh counter. -/
opaque Config.lgDraw : Nat → Word

/-- Free value: what a host reads by a register access that is not of the legal form; the bus response
"is not specified" (10_state.md R20; log 7). Applied to a fresh counter. -/
opaque Config.badReadValue : Nat → Word

end Sys2Proof
end

