-- ==== Sys2Proof/Syntax.lean ====
section
/-!
DEFINITION. The commands of the block: one constructor for each row of spec/opcode_table.json (30_encoding.md R75).
No command has an operand field: "Every operand is read from a fixed interface register" (30_encoding.md R73).
-/

namespace Sys2Proof

/-- The five commands. "The five commands of `30_encoding.md` rule R75 are the whole command set" (60_exceptions.md R170). -/
inductive Instr where
  /-- `SNEG.Q7`, scalar saturating negate of `OPA[7:0]` (40_scalar_q7.md R103). -/
  | snegQ7
  /-- `PNEG.B4`, raw packed negate of `OPA` (41_packed_4wide.md R116). -/
  | pnegB4
  /-- `PSAT.B4`, per-lane saturation fix of `OPA` (41_packed_4wide.md R117). -/
  | psatB4
  /-- `PNEGS.B4`, packed saturating negate of `OPA` (41_packed_4wide.md R118). -/
  | pnegsB4
  /-- `NEGV`, saturating negate of a buffer (42_block_kernel.md R130). -/
  | negv
deriving DecidableEq, Repr

end Sys2Proof
end

