-- ==== Sys2Proof/WellFormed.lean ====
section
/-!
DEFINITION. Which command words and which commands are well formed, as checks of their own, apart from the decoder.
-/

namespace Sys2Proof

/-- The check of the reserved field: `RSVD = v[31:8]` "must be `24'h000000`" (30_encoding.md R72). -/
def WellFormed.reservedClear (v : Word) : Bool := v.toNat / 256 == 0

/-- The check of the opcode field: `OP = 0x00` and `OP = 0x06..0xFF` are reserved (30_encoding.md R76). -/
def WellFormed.opcodeDefined (v : Word) : Bool := 1 ≤ v.toNat % 256 && v.toNat % 256 ≤ 5

/-- A command word is well formed if both checks pass (60_exceptions.md R154). -/
def WellFormed.commandWord (v : Word) : Bool := WellFormed.reservedClear v && WellFormed.opcodeDefined v

/-- Whether a build with this `HAS_PACKED` implements the command (30_encoding.md R75, column "needs HAS_PACKED").
A command that is not implemented is still a command: it raises `UNIMPL_CMD` (60_exceptions.md R156). -/
def WellFormed.implemented (hasPacked : Bool) (i : Instr) : Bool :=
  match i with
  | .snegQ7 => true
  | .pnegB4 => hasPacked
  | .psatB4 => hasPacked
  | .pnegsB4 => hasPacked
  | .negv => true

/-- Every command is well formed: none has an operand that could be out of range (30_encoding.md R73). -/
def Instr.wellFormed (i : Instr) : Bool :=
  match i with
  | .snegQ7 => true
  | .pnegB4 => true
  | .psatB4 => true
  | .pnegsB4 => true
  | .negv => true

end Sys2Proof
end

