-- ==== Sys2Proof/Decode.lean ====
section
/-!
DEFINITION. Decoding a command word written to CMD (30_encoding.md R70 to R78), rejecting by name, and the encoder.
Whether the build implements a packed command is not a matter of decoding here: the command itself raises
`UNIMPL_CMD` (60_exceptions.md R156), after `ILLEGAL_CMD` has been ruled out (60_exceptions.md R157).
-/

namespace Sys2Proof

/-- Why a word is no command. Both reasons raise `ILLEGAL_CMD` (60_exceptions.md R154). -/
inductive DecodeReject where
  /-- A bit of `v[31:8]` is set (30_encoding.md R72). -/
  | reservedBits
  /-- `OP` is 0x00 or 0x06..0xFF (30_encoding.md R76). -/
  | reservedOpcode
  /-- Fewer than four bytes: "Every command is exactly one 32-bit `CMD` write" (30_encoding.md R78). -/
  | tooShort
deriving DecidableEq, Repr

/-- `OP = v[7:0]` (30_encoding.md R71). -/
def fieldOp (v : Word) : Byte := v.extractLsb' 0 8

/-- `RSVD = v[31:8]` (30_encoding.md R72). -/
def fieldRsvd (v : Word) : BitVec 24 := v.extractLsb' 8 24

/-- The opcode map (30_encoding.md R75). -/
def opcodeMap (op : Byte) : Option Instr :=
  if op = 0x01 then some .snegQ7
  else if op = 0x02 then some .pnegB4
  else if op = 0x03 then some .psatB4
  else if op = 0x04 then some .pnegsB4
  else if op = 0x05 then some .negv
  else none

/-- Decode of a command word: reserved bits first, then the opcode (30_encoding.md R74; order 60_exceptions.md R157). -/
def decodeWord (v : Word) : Except DecodeReject Instr :=
  if fieldRsvd v ≠ 0 then .error .reservedBits
  else
    match opcodeMap (fieldOp v) with
    | some i => .ok i
    | none => .error .reservedOpcode

/-- The 32-bit word whose byte lane `i` is bits `[8i+7:8i]` (20_memory.md R55). -/
def wordOfBytes (b0 b1 b2 b3 : Byte) : Word := b3 ++ b2 ++ b1 ++ b0

/-- The four byte lanes of a word, lane 0 first (20_memory.md R55). -/
def bytesOfWord (v : Word) : List Byte :=
  [v.extractLsb' 0 8, v.extractLsb' 8 8, v.extractLsb' 16 8, v.extractLsb' 24 8]

/-- Decode of a byte sequence as it travels on the register port's byte lanes, with what is left of it. -/
def decodeBytes (bs : List Byte) : Except DecodeReject (Instr × List Byte) :=
  match bs with
  | b0 :: b1 :: b2 :: b3 :: rest =>
    match decodeWord (wordOfBytes b0 b1 b2 b3) with
    | .ok i => .ok (i, rest)
    | .error e => .error e
  | _ => .error .tooShort

/-- The command word of a command (30_encoding.md R75). -/
def encode (i : Instr) : Word :=
  match i with
  | .snegQ7 => 0x00000001
  | .pnegB4 => 0x00000002
  | .psatB4 => 0x00000003
  | .pnegsB4 => 0x00000004
  | .negv => 0x00000005

/-- The bytes of a command word, byte lane 0 first. -/
def encodeBytes (i : Instr) : List Byte := bytesOfWord (encode i)

/-- The instruction the decoder reads from the table's bits: the low `nbits` of `w`, every higher bit 0, laid out as the
four byte lanes of a command word. -/
def decodeTableWord (nbits w : Nat) : Option Instr :=
  match decodeBytes (bytesOfWord (BitVec.ofNat 32 (w % 2 ^ nbits))) with
  | .ok (i, _) => some i
  | .error _ => none

end Sys2Proof
end

