-- ==== Sys2Proof/Machine/State.lean ====
section
/-!
DEFINITION. The machine's state as plain data: every register of 10_state.md, the data memory, the model-fault set, the
parameters, and the model's own fields for what the hosts do and who moves next. And State.reset.
-/

namespace Sys2Proof.Machine

/-- The data memory: the bytes that have been written, as (address, byte) cells with addresses strictly rising. An
address that is not listed has never been written; it reads as `Config.powerUpByte` of it (10_state.md R44; log 4). -/
abbrev Memory := List Host.Cell

/-- The set `FAULTS` of model-fault reasons (10_state.md R43), one Boolean for each reason of 00_scope.md R16 (log 18). -/
structure FaultSet where
  /-- `OVERLAP` (42_block_kernel.md R134). -/
  overlap : Bool
  /-- `WRAP` (42_block_kernel.md R134). -/
  wrap : Bool
  /-- `RACE` (20_memory.md R65). -/
  race : Bool
  /-- `BAD_REG_ACCESS` (10_state.md R20). -/
  badRegAccess : Bool
deriving DecidableEq, Repr

/-- The empty set of model faults. -/
def FaultSet.empty : FaultSet := ⟨false, false, false, false⟩

/-- One host transaction (30_encoding.md R79, R80, R81). The offset and the size of a register access are any numbers,
so that the forms 10_state.md R20 calls bad are among them. -/
inductive HostAction where
  /-- A host write of `size` bytes at offset `off` of the register window; legal forms are 4 bytes wide and carry `v`. -/
  | regWrite (off size : Nat) (v : Word)
  /-- A host read of `size` bytes at offset `off` of the register window. -/
  | regRead (off size : Nat)
  /-- `mst.b addr, imm8`: the host stores a byte. -/
  | memStore (addr : Addr) (b : Byte)
  /-- `mld.b addr`: the host loads a byte. -/
  | memLoad (addr : Addr)
  /-- `poll`: read STATUS, and again while bit 0 of the value read is 1. -/
  | poll
deriving DecidableEq, Repr

/-- Which agent moves at a step (00_scope.md R18, 60_exceptions.md R167, 70_reset_and_hazards.md R180; log 11). -/
inductive Turn where
  /-- A host agent: the first waiting host transaction. -/
  | host
  /-- The block agent: its one candidate sequencer step. -/
  | block
  /-- The reset input. -/
  | reset
deriving DecidableEq, Repr

/-- The machine's state. -/
structure State where
  /-- `STATUS.BUSY` (10_state.md R22). -/
  busy : Bool
  /-- `STATUS.ERR` (10_state.md R23). -/
  err : Bool
  /-- `STATUS.ERRCODE` (10_state.md R24). -/
  errCode : BitVec 4
  /-- `CFG.PACKED_EN` (10_state.md R26). -/
  packedEn : Bool
  /-- `OPA` (10_state.md R30). -/
  opa : Word
  /-- `RES` (10_state.md R31). -/
  res : Word
  /-- `SRC` (10_state.md R32). -/
  src : Word
  /-- `DST` (10_state.md R33). -/
  dst : Word
  /-- `LEN` (10_state.md R34). -/
  len : Word
  /-- `SEQ_J`, internal (10_state.md R36). -/
  seqJ : Word
  /-- `SEQ_MODE`, internal: true is the wide-block strategy (10_state.md R36). -/
  seqMode : Bool
  /-- `LG`, internal, the packed lane group (10_state.md R36; log 5). -/
  lg : Word
  /-- `M`, the platform's data memory (10_state.md R44). -/
  mem : Memory
  /-- `FAULTS`, model-only (10_state.md R43). -/
  faults : FaultSet
  /-- `HAS_PACKED`, `BLOCK_BASE` and `MEM_ADMIT` (00_scope.md R7, R9; log 1). No step changes them. -/
  params : Params
  /-- The model's own: the counter that makes free values fresh (log 6). -/
  draws : Nat
  /-- The model's own: the value the latest host read returned (30_encoding.md R79; log 10). -/
  readData : Option Word
  /-- The model's own: the host transactions still to come, in the order the platform takes them (log 11, log 17). -/
  host : List HostAction
  /-- The model's own: which agent moves at the next steps; empty means the fair default of log 12. -/
  turns : List Turn
deriving DecidableEq, Repr

/-- Why a step stops the machine. -/
inductive Fault where
  /-- Answered by `step` alone, when no agent has an enabled step any more: the sequencer's next access is not admitted
  ("that sequencer step is not enabled", 20_memory.md R58) and no host transaction and no turn is waiting. Safe: the model
  stops where the platform's real response is not known (log 13). -/
  | stuckUnadmittedAccess
deriving DecidableEq, Repr

/-- Why an instruction has no meaning. -/
inductive Refusal where
  /-- The form the host fixes for an instruction not modelled yet. No arm of `exec` answers it. Safe. -/
  | notModelled (mnemonic : String)
deriving DecidableEq, Repr

/-- The machine right after power-up and reset, for given parameters: every register at the value of
70_reset_and_hazards.md R180; LG, which it leaves unspecified, at 0 (DESIGN CHOICE, log 5); memory with nothing written
(10_state.md R44); FAULTS empty, as "at launch" (10_state.md R43; log 24); no host transaction and no turn waiting (log 11). -/
def State.resetWith (p : Params) : State where
  busy := false
  err := false
  errCode := 0
  packedEn := false
  opa := 0
  res := 0
  src := 0
  dst := 0
  len := 0
  seqJ := 0
  seqMode := false
  lg := 0
  mem := []
  faults := FaultSet.empty
  params := p
  draws := 0
  readData := none
  host := []
  turns := []

/-- The machine right after reset, with the parameters of log 1. -/
def State.reset : State := State.resetWith Params.atReset

end Sys2Proof.Machine
end

