-- ==== Sys2Proof/Machine/Flags.lean ====
section
/-!
DEFINITION. The status and configuration words the host reads, and the error codes. The block has no condition codes and
no saturation flag (10_state.md R39): no command computes a flag from its result.
-/

namespace Sys2Proof.Machine

/-- The three error conditions (60_exceptions.md R150, R151). -/
inductive ErrorCode where
  /-- A `CMD` write whose word is no command (60_exceptions.md R154). -/
  | illegalCmd
  /-- A packed command where the packed unit is absent (60_exceptions.md R156). -/
  | unimplCmd
  /-- A write refused while `STATUS.BUSY == 1` (60_exceptions.md R155). -/
  | busy
deriving DecidableEq, Repr

/-- The code `STATUS.ERRCODE` records (60_exceptions.md R151). -/
def errorCodeBits (c : ErrorCode) : BitVec 4 :=
  match c with
  | .illegalCmd => 1
  | .unimplCmd => 2
  | .busy => 3

/-- One bit of a word. -/
def bit (b : Bool) : BitVec 1 := BitVec.ofBool b

/-- What `RegRead(0x04)` returns: `{24'b0, ERRCODE[3:0], 2'b00, ERR, BUSY}` (10_state.md R25; log 20). -/
def statusWord (s : State) : Word := (0 : BitVec 24) ++ s.errCode ++ (0 : BitVec 2) ++ bit s.err ++ bit s.busy

/-- What `RegRead(0x08)` returns: `{31'b0, PACKED_EN}` (10_state.md R27). -/
def cfgWord (s : State) : Word := (0 : BitVec 31) ++ bit s.packedEn

/-- What `RegRead(0x0C)` returns: `zext_32(HAS_PACKED)` (10_state.md R29). -/
def capWord (s : State) : Word := (bit s.params.hasPacked).setWidth 32

end Sys2Proof.Machine
end

