-- ==== Sys2Proof/Machine/Ops.lean ====
section
/-!
DEFINITION. The named operations: one setter for each field, the data memory and its admission check, raising and
clearing an error, marking a model fault, free values, and the reset event.
-/

namespace Sys2Proof.Machine

/-! ## Setters: one home for each register -/

def State.setBusy (s : State) (v : Bool) : State := { s with busy := v }
def State.setErr (s : State) (v : Bool) : State := { s with err := v }
def State.setErrCode (s : State) (v : BitVec 4) : State := { s with errCode := v }
def State.setPackedEn (s : State) (v : Bool) : State := { s with packedEn := v }
def State.setOpa (s : State) (v : Word) : State := { s with opa := v }
def State.setRes (s : State) (v : Word) : State := { s with res := v }
def State.setSrc (s : State) (v : Word) : State := { s with src := v }
def State.setDst (s : State) (v : Word) : State := { s with dst := v }
def State.setLen (s : State) (v : Word) : State := { s with len := v }
def State.setSeqJ (s : State) (v : Word) : State := { s with seqJ := v }
def State.setSeqMode (s : State) (v : Bool) : State := { s with seqMode := v }
def State.setLg (s : State) (v : Word) : State := { s with lg := v }
def State.setMem (s : State) (v : Memory) : State := { s with mem := v }
def State.setFaults (s : State) (v : FaultSet) : State := { s with faults := v }
def State.setDraws (s : State) (v : Nat) : State := { s with draws := v }
def State.setReadData (s : State) (v : Option Word) : State := { s with readData := v }
def State.setHost (s : State) (v : List HostAction) : State := { s with host := v }
def State.setTurns (s : State) (v : List Turn) : State := { s with turns := v }

/-! ## Errors: the block's exception mechanism (60_exceptions.md) -/

/-- `raise Error(code)`: the code is recorded if no error is, and `ERR` is set; nothing is saved, no mode changes and
control does not move (60_exceptions.md R152, R153, R158). -/
def raiseError (c : ErrorCode) (s : State) : State :=
  (s.setErrCode (if s.err then s.errCode else errorCodeBits c)).setErr true

/-- A host write of `STATUS` with bit 1 set: the counterpart of a return from an exception
(10_state.md R25, 60_exceptions.md R159). -/
def clearError (s : State) : State := (s.setErrCode 0).setErr false

/-- A `RegWrite` that is refused with `Error(BUSY)` while `STATUS.BUSY == 1`, and runs otherwise (60_exceptions.md R155). -/
def refuseWhileBusy (run : State → State) (s : State) : State :=
  if s.busy then raiseError .busy s else run s

/-- A packed command's own check: `Error(UNIMPL_CMD)` where the packed unit is absent (60_exceptions.md R156). -/
def requirePacked (run : State → State) (s : State) : State :=
  if s.params.hasPacked then run s else raiseError .unimplCmd s

/-! ## Model faults (00_scope.md R16, 10_state.md R43) -/

/-- The union of two sets of model faults. -/
def FaultSet.union (f g : FaultSet) : FaultSet :=
  ⟨f.overlap || g.overlap, f.wrap || g.wrap, f.race || g.race, f.badRegAccess || g.badRegAccess⟩

/-- `model_fault`: the reasons are added to `FAULTS`, which "grows only" (10_state.md R43). -/
def markFaults (f : FaultSet) (s : State) : State := s.setFaults (s.faults.union f)

/-! ## The data memory (10_state.md R44, 20_memory.md R51) -/

/-- The byte written last at an address, if any was. -/
def memFind (m : Memory) (a : Nat) : Option Byte :=
  match m with
  | [] => none
  | (k, b) :: rest => if a = k then some b else memFind rest a

/-- The memory with one byte written, in the same canonical form. -/
def memInsert (m : Memory) (a : Nat) (b : Byte) : Memory :=
  match m with
  | [] => [(a, b)]
  | (k, c) :: rest =>
    if a < k then (a, b) :: (k, c) :: rest
    else if a = k then (a, b) :: rest
    else (k, c) :: memInsert rest a b

/-- Every address of the list lies above `lo`, and they rise strictly. -/
def memRising (lo : Nat) (m : Memory) : Bool :=
  match m with
  | [] => true
  | (k, _) :: rest => decide (lo ≤ k) && memRising (k + 1) rest

/-- The canonical form: addresses strictly rising and below `2^32`. An unlisted address has no written byte, so no entry
can equal what an unlisted address holds (log 4). -/
def Memory.wf (m : Memory) : Bool := memRising 0 m && m.all (fun c => decide (c.1 < 2 ^ 32))

/-- `M[a]`: the byte written last, or the free power-up byte of that address (10_state.md R44, 20_memory.md R60). -/
def memByte (m : Memory) (a : Addr) : Byte :=
  match memFind m a.toNat with
  | some b => b
  | none => Config.powerUpByte a

/-- `M[a] <- b`. -/
def memSet (m : Memory) (a : Addr) (b : Byte) : Memory := memInsert m a.toNat b

/-- `MemRead(addr, 1)` (00_scope.md R14). -/
def memRead1 (s : State) (a : Addr) : Byte := memByte s.mem a

/-- `MemRead(addr, 4)`: bits `[8i+7:8i]` are `M[addr + i]`; address sums are modulo `2^32` (00_scope.md R14, 20_memory.md R53). -/
def memRead4 (s : State) (a : Addr) : Word :=
  wordOfBytes (memByte s.mem a) (memByte s.mem (a + 1)) (memByte s.mem (a + 2)) (memByte s.mem (a + 3))

/-- `MemWrite(addr, 1, v)` (00_scope.md R14). -/
def memWrite1 (a : Addr) (b : Byte) (s : State) : State := s.setMem (memSet s.mem a b)

/-- `MemWrite(addr, 4, v)`: `M[addr + i] <- v[8i+7:8i]` (00_scope.md R14, 20_memory.md R53). -/
def memWrite4 (a : Addr) (v : Word) (s : State) : State :=
  s.setMem (memSet (memSet (memSet (memSet s.mem a (v.extractLsb' 0 8)) (a + 1) (v.extractLsb' 8 8))
    (a + 2) (v.extractLsb' 16 8)) (a + 3) (v.extractLsb' 24 8))

/-- `BLOCK_BASE` (00_scope.md R9; log 2). -/
def blockBase (p : Params) : Addr := p.blockPage ++ (0 : BitVec 8)

/-- Whether an address lies in the register window `[BLOCK_BASE, BLOCK_BASE + 0x100)` (20_memory.md R50). -/
def inWindow (p : Params) (a : Addr) : Bool := decide (a.extractLsb' 8 24 = p.blockPage)

/-- `MEM_ADMIT(a)` (00_scope.md R9), "false on the window" (20_memory.md R52, R60; log 3). -/
def memAdmit (p : Params) (a : Addr) : Bool :=
  !inWindow p a && p.admitted.any (fun r => decide (r.base ≤ a.toNat) && decide (a.toNat < r.base + r.size))

/-- Whether `a` is a byte of the buffer of `n` bytes at `base`, address sums modulo `2^32` (20_memory.md R65; log 14). -/
def inBuffer (base n a : Word) : Bool := decide ((a - base).toNat < n.toNat)

/-! ## Free values and reset -/

/-- Between sequencer steps and after a reset event LG holds any value (10_state.md R36, 70_reset_and_hazards.md R180; log 5). -/
def dropLaneGroup (s : State) : State := (s.setLg (Config.lgDraw s.draws)).setDraws (s.draws + 1)

/-- The reset event (70_reset_and_hazards.md R180). It aborts a running `NEGV` (R181) and changes neither the data memory
nor `FAULTS` (R182). The parameters and the hosts' own fields are not the block's (log 22). -/
def resetEvent (s : State) : State :=
  dropLaneGroup { s with
    busy := false, err := false, errCode := 0, packedEn := false,
    opa := 0, res := 0, src := 0, dst := 0, len := 0, seqJ := 0, seqMode := false }

end Sys2Proof.Machine
end

