-- ==== Sys2Proof/Machine/Operands.lean ====
section
/-!
DEFINITION. The operand forms: lanes and packing (00_scope.md R12), the fixed registers each command reads
(30_encoding.md R73), and the sequencer's addresses.
-/

namespace Sys2Proof.Machine

/-- `lane(w, i) = w[8*i+7 : 8*i]` (00_scope.md R12). -/
def lane (w : Word) (i : Nat) : Byte := w.extractLsb' (8 * i) 8

/-- `pack(l0, l1, l2, l3) = {l3, l2, l1, l0}`: lane 0 is in bits [7:0] (00_scope.md R12). -/
def pack (l0 l1 l2 l3 : Byte) : Word := l3 ++ l2 ++ l1 ++ l0

/-- One 8-bit function applied to each lane on its own (41_packed_4wide.md R119). -/
def mapLanes (f : Byte → Byte) (w : Word) : Word := pack (f (lane w 0)) (f (lane w 1)) (f (lane w 2)) (f (lane w 3))

/-- `OPA[7:0]`, the operand of `SNEG.Q7`; `OPA[31:8]` is ignored (40_scalar_q7.md R103). -/
def scalarOperand (s : State) : Byte := lane s.opa 0

/-- `OPA[31:0]` as four lanes, the operand of the packed commands (30_encoding.md R73). -/
def packedOperand (s : State) : Word := s.opa

/-- `sext_32` of an 8-bit result: bits [31:8] copy bit 7 (40_scalar_q7.md R103). -/
def sext32 (b : Byte) : Word := b.signExtend 32

/-- `SRC + j + i` with `j = SEQ_J` (42_block_kernel.md R135, R136; no alignment is needed, 20_memory.md R56). -/
def srcAddr (s : State) (i : Nat) : Addr := s.src + s.seqJ + BitVec.ofNat 32 i

/-- `DST + j + i` with `j = SEQ_J` (42_block_kernel.md R135, R136). -/
def dstAddr (s : State) (i : Nat) : Addr := s.dst + s.seqJ + BitVec.ofNat 32 i

end Sys2Proof.Machine
end

