-- ==== Sys2Proof/Machine/Scalar.lean ====
section
/-!
DEFINITION. The scalar Q7 saturating negator (40_scalar_q7.md) and the command SNEG.Q7.
-/

namespace Sys2Proof.Machine

/-- `satneg8`, in its special-case form (40_scalar_q7.md R101). -/
def satneg8 (b : Byte) : Byte := if b = 0x80 then 0x7F else 0x00 - b

/-- The combinational scalar unit, `sn_out = satneg8(sn_in)` (10_state.md R40). -/
def scalarUnit (snIn : Byte) : Byte := satneg8 snIn

/-- `SNEG.Q7`: `RES <- sext_32(satneg8(OPA[7:0]))`. `HAS_PACKED` does not gate it (40_scalar_q7.md R103). -/
def execSnegQ7 (s : State) : Host.Outcome State Fault Refusal :=
  .next (refuseWhileBusy (fun s => s.setRes (sext32 (scalarUnit (scalarOperand s)))) s)

end Sys2Proof.Machine
end

