-- ==== Sys2Proof/Machine/Packed.lean ====
section
/-!
DEFINITION. The packed 4-wide saturating negate (41_packed_4wide.md) and the commands PNEG.B4, PSAT.B4 and PNEGS.B4.
-/

namespace Sys2Proof.Machine

/-- `rawneg8`, negation modulo 2^8 "with no overflow detection" (41_packed_4wide.md R110). -/
def rawneg8 (b : Byte) : Byte := 0x00 - b

/-- `lanefix8`, the saturation check on a post-negate lane (41_packed_4wide.md R111). -/
def lanefix8 (y : Byte) : Byte := if y = 0x80 then 0x7F else y

/-- `pneg4` (41_packed_4wide.md R113). -/
def pneg4 (w : Word) : Word := mapLanes rawneg8 w

/-- `psat4` (41_packed_4wide.md R114). -/
def psat4 (w : Word) : Word := mapLanes lanefix8 w

/-- `pnegs4(w) = psat4(pneg4(w))`, "the two stages in sequence" (41_packed_4wide.md R115). -/
def pnegs4 (w : Word) : Word := psat4 (pneg4 w)

/-- The packed unit's operation select `pk_op`; the code 00 "is never driven by the block" (10_state.md R41). -/
inductive PackedOp where
  /-- `pk_op = 01`. -/
  | neg
  /-- `pk_op = 10`. -/
  | sat
  /-- `pk_op = 11`. -/
  | negs
deriving DecidableEq, Repr

/-- The two bits of `pk_op` (10_state.md R41). -/
def packedOpBits (op : PackedOp) : BitVec 2 :=
  match op with
  | .neg => 1
  | .sat => 2
  | .negs => 3

/-- The combinational packed unit, `pk_out` (10_state.md R41). Where `HAS_PACKED` is false the unit is absent: no
command reaches it (`requirePacked`), and the sequencer's mode is never wide-block (42_block_kernel.md R131). -/
def packedUnit (pkOp : PackedOp) (pkIn : Word) : Word :=
  match pkOp with
  | .neg => pneg4 pkIn
  | .sat => psat4 pkIn
  | .negs => pnegs4 pkIn

/-- A packed command: the packed unit's output on `OPA` goes to `RES` (41_packed_4wide.md R116 to R118). -/
def packedCommand (pkOp : PackedOp) (s : State) : State :=
  refuseWhileBusy (requirePacked (fun s => s.setRes (packedUnit pkOp (packedOperand s)))) s

/-- `PNEG.B4`: `RES <- pneg4(OPA)` (41_packed_4wide.md R116). -/
def execPnegB4 (s : State) : Host.Outcome State Fault Refusal := .next (packedCommand .neg s)

/-- `PSAT.B4`: `RES <- psat4(OPA)` (41_packed_4wide.md R117). -/
def execPsatB4 (s : State) : Host.Outcome State Fault Refusal := .next (packedCommand .sat s)

/-- `PNEGS.B4`: `RES <- pnegs4(OPA)` (41_packed_4wide.md R118). -/
def execPnegsB4 (s : State) : Host.Outcome State Fault Refusal := .next (packedCommand .negs s)

end Sys2Proof.Machine
end

