-- ==== Sys2Proof/Machine/Sequencer.lean ====
section
/-!
DEFINITION. The block sequencer (42_block_kernel.md): the start of NEGV within its CMD write, and the steps the block
agent takes afterwards, one for each group or element.
-/

namespace Sys2Proof.Machine

/-- Whether a buffer of `n` bytes at `a` runs past the top of the address space, in mathematical integers
(42_block_kernel.md R134). -/
def rangeWraps (a n : Word) : Bool := decide (a.toNat + n.toNat > 2 ^ 32)

/-- Whether the two buffers overlap without being the same (42_block_kernel.md R134; an exact alias is defined, R141). -/
def rangesOverlap (s d n : Word) : Bool :=
  decide (s.toNat ≠ d.toNat) && decide (s.toNat < d.toNat + n.toNat) && decide (d.toNat < s.toNat + n.toNat)

/-- The model faults of a non-empty start (42_block_kernel.md R134). -/
def rangeFaults (s : State) : FaultSet :=
  { FaultSet.empty with
    wrap := rangeWraps s.src s.len || rangeWraps s.dst s.len
    overlap := rangesOverlap s.src s.dst s.len }

/-- The start of an accepted `NEGV`: nothing if `LEN == 0` (42_block_kernel.md R132), else the range check, `SEQ_J <- 0`,
`SEQ_MODE <- CFG.PACKED_EN` and `STATUS.BUSY <- 1` (R133). After a fault is marked "the command still starts" (R134). -/
def startNegv (s : State) : State :=
  if s.len = 0 then s
  else (((markFaults (rangeFaults s) s).setSeqJ 0).setSeqMode s.packedEn).setBusy true

/-- `NEGV`: the start, within its `CMD` write step (42_block_kernel.md R130). Its elements are processed by the sequencer
steps below, which the block agent takes at its turns (log 25). -/
def execNegv (s : State) : Host.Outcome State Fault Refusal := .next (refuseWhileBusy startNegv s)

/-- `G4 = 4 * (LEN / 4)` (42_block_kernel.md R138, 00_scope.md R19). -/
def groupEnd (s : State) : Nat := 4 * (s.len.toNat / 4)

/-- Whether the candidate step is a group step (42_block_kernel.md R138). -/
def selectsGroup (s : State) : Bool := s.seqMode && decide (s.seqJ.toNat < groupEnd s)

/-- Whether the platform admits source and destination byte `SEQ_J + i` (42_block_kernel.md R135, R136). -/
def elementAdmitted (s : State) (i : Nat) : Bool :=
  memAdmit s.params (srcAddr s i) && memAdmit s.params (dstAddr s i)

/-- Whether the block has an enabled step (42_block_kernel.md R135, R136, R138; 20_memory.md R58). -/
def stepEnabled (s : State) : Bool :=
  s.busy &&
    if selectsGroup s then
      elementAdmitted s 0 && elementAdmitted s 1 && elementAdmitted s 2 && elementAdmitted s 3
    else elementAdmitted s 0

/-- `SEQ_J <- j + k`, and `if j + k == LEN then STATUS.BUSY <- 0` (42_block_kernel.md R135 to R137; log 23). -/
def advance (k : Word) (s : State) : State :=
  (s.setSeqJ (s.seqJ + k)).setBusy (s.busy && s.seqJ + k != s.len)

/-- The group step: the four source bytes are read into LG, saturating-negated by the packed unit, and written
(42_block_kernel.md R135). LG then carries no value to the next step (10_state.md R36; log 5). By lane `pnegs4` is the scalar
step's `satneg8`: the path is "a performance optimization, never a semantic variant" (70_reset_and_hazards.md R190). -/
def groupStep (s : State) : State :=
  let loaded := s.setLg (memRead4 s (srcAddr s 0))
  let negated := loaded.setLg (packedUnit .negs loaded.lg)
  advance 4 (dropLaneGroup (memWrite4 (dstAddr negated 0) negated.lg negated))

/-- The scalar step (42_block_kernel.md R136), on each byte the function that the group step has on each lane
(70_reset_and_hazards.md R190). -/
def scalarStep (s : State) : State :=
  advance 1 (memWrite1 (dstAddr s 0) (scalarUnit (memRead1 s (srcAddr s 0))) s)

/-- The block's step at its turn: its one candidate step if that is enabled, and none otherwise
(42_block_kernel.md R138; stuck, 20_memory.md R58). -/
def sequencerStep (s : State) : Option State :=
  if stepEnabled s then some (if selectsGroup s then groupStep s else scalarStep s) else none

end Sys2Proof.Machine
end

