-- ==== Sys2Proof/Machine/Dispatch.lean ====
section
/-!
DEFINITION. The meaning of each command: one arm for each constructor of Instr.
-/

namespace Sys2Proof.Machine

/-- What the CMD write of a command's word does (10_state.md R21, 30_encoding.md R74): refused with Error(BUSY) while busy,
and else the command runs (log 15). -/
def exec (i : Instr) (s : State) : Host.Outcome State Fault Refusal :=
  match i with
  | .snegQ7 => Sys2Proof.Machine.execSnegQ7 s
  | .pnegB4 => Sys2Proof.Machine.execPnegB4 s
  | .psatB4 => Sys2Proof.Machine.execPsatB4 s
  | .pnegsB4 => Sys2Proof.Machine.execPnegsB4 s
  | .negv => Sys2Proof.Machine.execNegv s

end Sys2Proof.Machine
end

