-- ==== Sys2Proof/Machine/HostPort.lean ====
section
/-!
DEFINITION. The register slave port (10_state.md section 1) and the host's own memory accesses (20_memory.md R65): what
each host transaction does.
-/

namespace Sys2Proof.Machine

/-- The registers of the window (10_state.md section 1); `reserved` is any of the offsets 0x24 to 0xFC. -/
inductive Reg where
  | cmd
  | status
  | cfg
  | cap
  | opa
  | res
  | src
  | dst
  | len
  | reserved
deriving DecidableEq, Repr

/-- The register at a legal offset (10_state.md section 1, R35). -/
def regAt (off : Nat) : Reg :=
  if off = 0x00 then .cmd
  else if off = 0x04 then .status
  else if off = 0x08 then .cfg
  else if off = 0x0C then .cap
  else if off = 0x10 then .opa
  else if off = 0x14 then .res
  else if off = 0x18 then .src
  else if off = 0x1C then .dst
  else if off = 0x20 then .len
  else .reserved

/-- The legal form of a register access: 32 bits wide, at a multiple of 4 below 0x100 (10_state.md R20). -/
def regAccessLegal (off size : Nat) : Bool := decide (size = 4) && decide (off % 4 = 0) && decide (off < 0x100)

/-- `RegWrite(0x00, v)`: `BUSY` before the word is looked at (10_state.md R21, 60_exceptions.md R157), then decode
(30_encoding.md R74): a word that is no command raises `ILLEGAL_CMD`, and a command runs. -/
def cmdWrite (v : Word) (s : State) : Host.Outcome State Fault Refusal :=
  if s.busy then .next (raiseError .busy s)
  else
    match decodeWord v with
    | .ok i => exec i s
    | .error _ => .next (raiseError .illegalCmd s)

/-- `RegWrite(0x04, v)`: bit 1 set clears `ERR` and `ERRCODE`, "and nothing else" (10_state.md R25). -/
def statusWrite (v : Word) (s : State) : State := if v.getLsbD 1 then clearError s else s

/-- `RegWrite(0x08, v)`: `PACKED_EN <- v[0] AND HAS_PACKED` (10_state.md R26). -/
def cfgWrite (v : Word) (s : State) : State :=
  refuseWhileBusy (fun s => s.setPackedEn (v.getLsbD 0 && s.params.hasPacked)) s

/-- `RegWrite` of a legal form (10_state.md R21, R25 to R35). -/
def regWrite (r : Reg) (v : Word) (s : State) : Host.Outcome State Fault Refusal :=
  match r with
  | .cmd => cmdWrite v s
  | .status => .next (statusWrite v s)
  | .cfg => .next (cfgWrite v s)
  | .cap => .next s
  | .opa => .next (refuseWhileBusy (fun s => s.setOpa v) s)
  | .res => .next s
  | .src => .next (refuseWhileBusy (fun s => s.setSrc v) s)
  | .dst => .next (refuseWhileBusy (fun s => s.setDst v) s)
  | .len => .next (refuseWhileBusy (fun s => s.setLen v) s)
  | .reserved => .next s

/-- What `RegRead` of a legal form returns (10_state.md R21, R25 to R35). -/
def regValue (r : Reg) (s : State) : Word :=
  match r with
  | .cmd => 0
  | .status => statusWord s
  | .cfg => cfgWord s
  | .cap => capWord s
  | .opa => s.opa
  | .res => s.res
  | .src => s.src
  | .dst => s.dst
  | .len => s.len
  | .reserved => 0

/-- A register access that is not of the legal form marks `BAD_REG_ACCESS` and reaches no register
(10_state.md R20, 00_scope.md R15; log 7). -/
def badRegAccess (s : State) : State := markFaults { FaultSet.empty with badRegAccess := true } s

/-- A read of that kind returns a free value: the bus response "is not specified" (10_state.md R20; log 7). -/
def badRegRead (s : State) : State :=
  ((badRegAccess s).setReadData (some (Config.badReadValue s.draws))).setDraws (s.draws + 1)

/-- Whether a host write of byte `a` races with the running `NEGV` (20_memory.md R65 (a), (b)). -/
def hostWriteRaces (a : Addr) (s : State) : Bool :=
  s.busy && (inBuffer s.src s.len a || inBuffer s.dst s.len a)

/-- Whether a host read of byte `a` races with the running `NEGV` (20_memory.md R65 (c)). -/
def hostReadRaces (a : Addr) (s : State) : Bool := s.busy && inBuffer s.dst s.len a

/-- Marks `RACE` if the access races; "The access itself is still performed" (20_memory.md R65). -/
def markRace (races : Bool) (s : State) : State := markFaults { FaultSet.empty with race := races } s

/-- `mst.b a, b` (30_encoding.md R79; not checked against `MEM_ADMIT`, log 9). In the register window it is a 1-byte
register access (10_state.md R20; log 8), and marks `BAD_REG_ACCESS` alone, even if a busy buffer of 20_memory.md R65 has
that address (DESIGN CHOICE, log 26). -/
def hostStore (a : Addr) (b : Byte) (s : State) : State :=
  if inWindow s.params a then badRegAccess s else memWrite1 a b (markRace (hostWriteRaces a s) s)

/-- `mld.b a` (30_encoding.md R79; not checked against `MEM_ADMIT`, log 9). In the register window it is a 1-byte
register access (10_state.md R20; log 8), and marks `BAD_REG_ACCESS` alone, even if a busy buffer of 20_memory.md R65 has
that address (DESIGN CHOICE, log 26). Elsewhere the byte is returned zero-extended (log 10). -/
def hostLoad (a : Addr) (s : State) : State :=
  if inWindow s.params a then badRegRead s
  else (markRace (hostReadRaces a s) s).setReadData (some ((memRead1 s a).setWidth 32))

/-- One round of `poll`: read `STATUS`, and wait for another round while bit 0 of the value read is 1
(30_encoding.md R80; log 19). -/
def pollRound (s : State) : State :=
  let t := s.setReadData (some (statusWord s))
  if (statusWord s).getLsbD 0 then t.setHost (.poll :: t.host) else t

/-- What one host transaction does. -/
def hostAction (a : HostAction) (s : State) : Host.Outcome State Fault Refusal :=
  match a with
  | .regWrite off size v => if regAccessLegal off size then regWrite (regAt off) v s else .next (badRegAccess s)
  | .regRead off size =>
    if regAccessLegal off size then .next (s.setReadData (some (regValue (regAt off) s))) else .next (badRegRead s)
  | .memStore addr b => .next (hostStore addr b s)
  | .memLoad addr => .next (hostLoad addr s)
  | .poll => .next (pollRound s)

end Sys2Proof.Machine
end

