-- ==== Sys2Proof/Machine/Arbiter.lean ====
section
/-!
DEFINITION. Whose step it is: the turn an agent is granted, and the fair default where no turn is laid down (log 12).
-/

namespace Sys2Proof.Machine

/-- A host's turn: the first waiting transaction, if there is one (60_exceptions.md R167). -/
def hostTurn (s : State) : Host.Outcome State Fault Refusal :=
  match s.host with
  | [] => .next s
  | a :: rest => hostAction a (s.setHost rest)

/-- The block's turn: its sequencer step. With no enabled step the block does nothing: it is idle (60_exceptions.md R169)
or stuck, with `BUSY` still 1 (20_memory.md R58). -/
def blockTurn (s : State) : State :=
  match sequencerStep s with
  | some t => t
  | none => s

/-- A turn laid down in `turns` (00_scope.md R18, 70_reset_and_hazards.md R180; log 11). -/
def grantedTurn (t : Turn) (s : State) : Host.Outcome State Fault Refusal :=
  match t with
  | .host => hostTurn s
  | .block => .next (blockTurn s)
  | .reset => .next (resetEvent s)

/-- No turn is laid down: the block takes its step if it is enabled, so that "An enabled sequencer step is taken
eventually" (42_block_kernel.md R138); else the hosts move. With neither, an idle block waits (60_exceptions.md R169), and
a stuck one has no step ever after (20_memory.md R58; log 12, log 13). -/
def defaultTurn (s : State) : Host.Outcome State Fault Refusal :=
  match sequencerStep s with
  | some t => .next t
  | none => if s.busy && s.host.isEmpty then .fault .stuckUnadmittedAccess else hostTurn s

/-- The next step of the machine. -/
def nextTurn (s : State) : Host.Outcome State Fault Refusal :=
  match s.turns with
  | [] => defaultTurn s
  | t :: rest => grantedTurn t (s.setTurns rest)

/-- The state with a `CMD` write of the low `nbits` of `w` as the first host transaction and a host's turn first, and the
block not busy, so that the write is accepted (10_state.md R21; log 11, log 16). -/
def placeCommand (s : State) (nbits w : Nat) : State :=
  ((s.setHost (.regWrite 0x00 4 (BitVec.ofNat 32 (w % 2 ^ nbits)) :: s.host)).setTurns (.host :: s.turns)).setBusy false

end Sys2Proof.Machine
end

