-- ==== Sys2Proof/Machine/Step.lean ====
section
/-!
DEFINITION. One step of the machine, and the state that runs a given command word next.
-/

namespace Sys2Proof.Machine

/-- One step: one agent's move (00_scope.md R18). -/
def step (s : State) : Host.Outcome State Fault Refusal := nextTurn s

/-- The state whose very next step is the host's `CMD` write of the word `w` and runs it (log 11, log 16). -/
def State.withFetchWord (s : State) (nbits w : Nat) : State := placeCommand s nbits w

end Sys2Proof.Machine
end

