-- ==== Sys2Proof/Machine/HostProgram.lean ====
section
/-!
DEFINITION. The host's notation: the actions of 30_encoding.md R79 and the pseudo-instructions of R80, as the host
transactions they stand for.
-/

namespace Sys2Proof.Machine

/-- `off(REG)` (10_state.md section 1). `reserved` stands for the first reserved offset. -/
def regOffset (r : Reg) : Nat :=
  match r with
  | .cmd => 0x00
  | .status => 0x04
  | .cfg => 0x08
  | .cap => 0x0C
  | .opa => 0x10
  | .res => 0x14
  | .src => 0x18
  | .dst => 0x1C
  | .len => 0x20
  | .reserved => 0x24

/-- `wr REG, imm32` (30_encoding.md R79). -/
def wr (r : Reg) (v : Word) : HostAction := .regWrite (regOffset r) 4 v

/-- `rd REG` (30_encoding.md R79). -/
def rd (r : Reg) : HostAction := .regRead (regOffset r) 4

/-- `cmd MNEMONIC` (30_encoding.md R79). -/
def cmd (i : Instr) : HostAction := wr .cmd (encode i)

/-- `cmd.raw imm32` (30_encoding.md R79). -/
def cmdRaw (v : Word) : HostAction := wr .cmd v

/-- The pseudo-instructions (30_encoding.md R80). -/
inductive Pseudo where
  | clr
  | poll
  | snegQ7 (imm : Byte)
  | pnegB4 (imm : Word)
  | psatB4 (imm : Word)
  | pnegsB4 (imm : Word)
  | negv (dst src n s : Word)
deriving DecidableEq, Repr

/-- Their expansions (30_encoding.md R80). -/
def expandPseudo (p : Pseudo) : List HostAction :=
  match p with
  | .clr => [wr .status 0x00000002]
  | .poll => [.poll]
  | .snegQ7 imm => [wr .opa (imm.setWidth 32), cmd .snegQ7, rd .res]
  | .pnegB4 imm => [wr .opa imm, cmd .pnegB4, rd .res]
  | .psatB4 imm => [wr .opa imm, cmd .psatB4, rd .res]
  | .pnegsB4 imm => [wr .opa imm, cmd .pnegsB4, rd .res]
  | .negv dst src n s => [wr .src src, wr .dst dst, wr .len n, wr .cfg s, cmd .negv, .poll]

end Sys2Proof.Machine
end

