-- ==== Sys2Proof/Safety.lean ====
section
/-!
DEFINITION. What claims are stated in: the machine's invariant, a clean and a final run, a stuck block, what a NEGV needs
of its buffers, how far a running NEGV has got, and a run of the block's own steps.
-/

namespace Sys2Proof.Machine

/-- The machine's invariant. -/
structure State.Inv (s : State) : Prop where
  /-- The data memory is in its canonical form. -/
  memCanonical : Memory.wf s.mem = true
  /-- `ERRCODE` values 4 to 15 "are never produced" (10_state.md R24). -/
  errCodeLegal : s.errCode.toNat ≤ 3
  /-- Code 0 is "the value when `ERR == 0`" (60_exceptions.md R151), and no error has code 0. -/
  errMatchesCode : s.err = false ↔ s.errCode = 0
  /-- "When `HAS_PACKED` is false the field is hardwired to 0" (10_state.md R26). -/
  packedNeedsUnit : s.packedEn = true → s.params.hasPacked = true
  /-- Without the packed unit every `NEGV` uses the scalar strategy (42_block_kernel.md R131). -/
  modeNeedsUnit : s.seqMode = true → s.params.hasPacked = true
  /-- "While `BUSY == 1`, `SEQ_J < LEN` always holds" (42_block_kernel.md R138). -/
  indexBelowLen : s.busy = true → s.seqJ.toNat < s.len.toNat
  /-- In group steps `SEQ_J` takes the values `0, 4, .., G4 - 4` (42_block_kernel.md R138). -/
  groupIndexAligned : s.busy = true → selectsGroup s = true → s.seqJ.toNat % 4 = 0

/-- "A run with `FAULTS` non-empty is never final" (10_state.md R43): the model gives a meaning to clean states only. -/
def State.clean (s : State) : Prop := s.faults = FaultSet.empty

/-- A clean state in which nothing is left to do. That it is clean is 10_state.md R43's: "A run with `FAULTS` non-empty is
never final". The spec says nowhere when a clean run is final; that `BUSY` is 0 and no host transaction and no turn is waiting
is a DESIGN CHOICE of the model (log 27). -/
def State.final (s : State) : Prop := s.clean ∧ s.busy = false ∧ s.host = [] ∧ s.turns = []

/-- The block is stuck: busy, with no enabled step (20_memory.md R58). -/
def State.stuck (s : State) : Prop := s.busy = true ∧ stepEnabled s = false

/-- The `j`-th byte of a buffer. -/
def bufferAddr (base : Word) (j : Nat) : Addr := base + BitVec.ofNat 32 j

/-- The buffers of a `NEGV` do not wrap past the top of the address space, and are one buffer or disjoint
(42_block_kernel.md R134, R141; 70_reset_and_hazards.md R184). -/
def State.buffersLegal (s : State) : Prop :=
  s.src.toNat + s.len.toNat ≤ 2 ^ 32 ∧ s.dst.toNat + s.len.toNat ≤ 2 ^ 32 ∧
    (s.src = s.dst ∨ s.dst.toNat + s.len.toNat ≤ s.src.toNat ∨ s.src.toNat + s.len.toNat ≤ s.dst.toNat)

/-- The platform admits every byte of both buffers (70_reset_and_hazards.md R184). -/
def State.buffersAdmitted (s : State) : Prop :=
  ∀ j, j < s.len.toNat → memAdmit s.params (bufferAddr s.src j) = true ∧ memAdmit s.params (bufferAddr s.dst j) = true

/-- How far the `NEGV` in `s` has got, where `m0` is the data memory at its start: the elements below `SEQ_J` are done, and
the source bytes of the others are still as they were (42_block_kernel.md R139, R141). -/
structure NegvProgress (m0 : Memory) (s : State) : Prop where
  legal : s.buffersLegal
  indexInRange : s.seqJ.toNat ≤ s.len.toNat
  done : ∀ j, j < s.seqJ.toNat →
    memByte s.mem (bufferAddr s.dst j) = satneg8 (memByte m0 (bufferAddr s.src j))
  todo : ∀ j, s.seqJ.toNat ≤ j → j < s.len.toNat →
    memByte s.mem (bufferAddr s.src j) = memByte m0 (bufferAddr s.src j)

/-- `k` turns of the block, one after the other. -/
def blockRun (k : Nat) (s : State) : State :=
  match k with
  | 0 => s
  | k + 1 => blockRun k (blockTurn s)

/-- The number of sequencer steps of a `NEGV` (70_reset_and_hazards.md R189). -/
def sequencerSteps (mode : Bool) (len : Word) : Nat :=
  if mode then len.toNat / 4 + len.toNat % 4 else len.toNat

end Sys2Proof.Machine
end

