-- ==== Sys2Proof/Certificates/Slice0/Obligations.lean ====
section
/-!
DEFINITION. The statements for the provers. Each docstring names the rule of spec/ it formalises; a clause that rests on a
choice of the model names the entry of notes/assumptions/ that declares it.
-/

open Sys2Proof Sys2Proof.Machine

/-! ## Encoding and decoding -/

/-- The five words of the opcode map (30_encoding.md R75) decode to their commands. -/
def Obligations.DecodesTheFiveCommandWords : Prop :=
  decodeWord 0x00000001 = .ok .snegQ7 ∧ decodeWord 0x00000002 = .ok .pnegB4 ∧ decodeWord 0x00000003 = .ok .psatB4 ∧
    decodeWord 0x00000004 = .ok .pnegsB4 ∧ decodeWord 0x00000005 = .ok .negv

/-- A word decodes to a command exactly if it is that command's word, on all 32 bits (30_encoding.md R75), and so do the
bytes of the register port's lanes (20_memory.md R55), whatever follows them. -/
def Obligations.DecodeAndEncodeAgree : Prop :=
  (∀ (w : Word) (i : Instr), decodeWord w = .ok i ↔ w = encode i) ∧
    ∀ (bs rest : List Byte) (i : Instr), decodeBytes bs = .ok (i, rest) ↔ bs = encodeBytes i ++ rest

/-- An accepted CMD write of a word with a reserved bit set or a reserved opcode records `ILLEGAL_CMD` (code 1, if no error
is recorded yet) and does nothing else, whatever `HAS_PACKED` is (60_exceptions.md R154, 30_encoding.md R72, R76). -/
def Obligations.WordsOutsideTheMapAreIllegal : Prop :=
  ∀ (s : State) (v : Word), s.busy = false →
    (v.toNat / 256 ≠ 0 ∨ v.toNat % 256 = 0 ∨ 6 ≤ v.toNat % 256) →
    hostAction (.regWrite 0x00 4 v) s =
      .next { s with err := true, errCode := if s.err then s.errCode else 1 }

/-- Decode is total: every word written to an idle block runs exactly one command or is illegal (30_encoding.md R74). -/
def Obligations.EveryWordRunsOneCommandOrRaises : Prop :=
  ∀ (s : State) (v : Word), s.busy = false →
    (∃ i, v = encode i ∧ hostAction (.regWrite 0x00 4 v) s = exec i s) ∨
      ((∀ i, v ≠ encode i) ∧
        hostAction (.regWrite 0x00 4 v) s = .next { s with err := true, errCode := if s.err then s.errCode else 1 })

/-! ## A step runs the decoded command -/

/-- A host's turn whose first transaction is a CMD write of a command's word to an idle block is that command's meaning, in
the state from which the turn and the transaction have been taken; and so is a step with no turn laid down (logs 11, 12). -/
def Obligations.StepRunsTheDecodedCommand : Prop :=
  ∀ (s : State) (v : Word) (i : Instr) (rest : List HostAction),
    s.busy = false → s.host = .regWrite 0x00 4 v :: rest → decodeWord v = .ok i →
    (∀ ts, s.turns = .host :: ts → step s = exec i { s with host := rest, turns := ts }) ∧
      (s.turns = [] → step s = exec i { s with host := rest })

/-- A host's turn is `hostAction` of its first transaction, whatever that is (a read, a write, legal or not, a memory access,
a round of `poll`), in the state from which the turn and the transaction have been taken; with no turn laid down and no enabled
sequencer step it is the same, and a host's turn with no transaction waiting only passes (60_exceptions.md R167: "taken one at
a time"; the queue and the turns are the model's, logs 11, 12, 17). -/
def Obligations.HostTurnDoesTheFirstTransaction : Prop :=
  ∀ s : State,
    (∀ (a : HostAction) (rest : List HostAction), s.host = a :: rest →
      (∀ ts, s.turns = .host :: ts → step s = hostAction a { s with host := rest, turns := ts }) ∧
        (s.turns = [] → sequencerStep s = none → step s = hostAction a { s with host := rest })) ∧
    (s.host = [] → ∀ ts, s.turns = .host :: ts → step s = .next { s with turns := ts })

/-- The state that places a command's word runs exactly that command next, on the state it was placed in, not busy
(logs 11, 16: the placing is the model's). -/
def Obligations.PlacedCommandRunsNext : Prop :=
  ∀ (s : State) (i : Instr), step (s.withFetchWord 32 (encode i).toNat) = exec i { s with busy := false }

/-- With no turn laid down an enabled sequencer step is taken at once, before any host transaction (log 12, the model's form
of the weak fairness of 42_block_kernel.md R138). -/
def Obligations.EnabledSequencerStepComesFirst : Prop :=
  ∀ (s t : State), s.turns = [] → sequencerStep s = some t → step s = .next t

/-! ## The arithmetic -/

/-- `satneg8` is saturated negation of the integer reading (40_scalar_q7.md R100). -/
def Obligations.SatnegIsSaturatedNegation : Prop :=
  ∀ b : Byte, (satneg8 b).toInt = if -b.toInt > 127 then 127 else -b.toInt

/-- The integer laws of `satneg8`, (a) to (f) (40_scalar_q7.md R102). -/
def Obligations.SatnegIntegerLaws : Prop :=
  (satneg8 0x80 = 0x7F ∧ ∀ b : Byte, b ≠ 0x80 → (satneg8 b).toInt = -b.toInt) ∧
    (∀ b : Byte, satneg8 b ≠ 0x80 ∧ -127 ≤ (satneg8 b).toInt ∧ (satneg8 b).toInt ≤ 127) ∧
    (∀ b : Byte, satneg8 b = b ↔ b = 0x00) ∧
    ((∀ b : Byte, b ≠ 0x80 → satneg8 (satneg8 b) = b) ∧ satneg8 (satneg8 0x80) = 0x81) ∧
    ((∀ b c : Byte, b ≠ 0x80 → c ≠ 0x80 → satneg8 b = satneg8 c → b = c) ∧ satneg8 0x81 = 0x7F) ∧
    ∀ b : Byte, 0x00 - b = ~~~b + 1

/-- The lane fix after the raw negation is the saturating negation; raw negation is a bijection, and gives 0x80 for 0x80
alone (41_packed_4wide.md R112). -/
def Obligations.LaneFixAfterRawNegateIsSatneg : Prop :=
  (∀ b : Byte, lanefix8 (rawneg8 b) = satneg8 b) ∧ Function.Bijective rawneg8 ∧
    ∀ b : Byte, rawneg8 b = 0x80 ↔ b = 0x80

/-- The three packed functions act on each lane on its own, by negation modulo 2^8, by the fix of 0x80 to 0x7F, and by
`satneg8`; and the third is the second after the first (41_packed_4wide.md R113, R114, R115). -/
def Obligations.PackedFunctionsActByLane : Prop :=
  ∀ (w : Word) (i : Nat), i < 4 →
    lane (pneg4 w) i = 0x00 - lane w i ∧
      lane (psat4 w) i = (if lane w i = 0x80 then 0x7F else lane w i) ∧
      lane (pnegs4 w) i = satneg8 (lane w i) ∧ pnegs4 w = psat4 (pneg4 w)

/-- A lane of a packed result depends on that lane of the operand alone, and by the same function in every lane
(41_packed_4wide.md R119). -/
def Obligations.PackedLanesAreIndependent : Prop :=
  ∀ (f : Word → Word), f = pneg4 ∨ f = psat4 ∨ f = pnegs4 →
    ∀ (w w' : Word) (i k : Nat), i < 4 → k < 4 → lane w i = lane w' k → lane (f w) i = lane (f w') k

/-! ## The direct commands -/

/-- `SNEG.Q7`, word 1: accepted, it writes `RES` with the sign-extended saturated negation of `OPA[7:0]` and changes nothing
else, whatever `HAS_PACKED` is; while busy it is refused with `Error(BUSY)` (40_scalar_q7.md R103). -/
def Obligations.SnegQ7Result : Prop :=
  encode .snegQ7 = 0x00000001 ∧
    ∀ s : State,
      (s.busy = false → ∃ t, exec .snegQ7 s = .next t ∧ t = { s with res := t.res } ∧
        t.res = (if s.opa.extractLsb' 0 8 = 0x80 then (0x7F : Byte) else 0x00 - s.opa.extractLsb' 0 8).signExtend 32 ∧
        t.res.toInt = if -(s.opa.extractLsb' 0 8).toInt > 127 then 127 else -(s.opa.extractLsb' 0 8).toInt) ∧
      (s.busy = true → exec .snegQ7 s = .next { s with err := true, errCode := if s.err then s.errCode else 3 })

/-- `PNEG.B4`, word 2: accepted and implemented, it writes each lane of `RES` with the negation modulo 2^8 of that lane of
`OPA` and changes nothing else; without the packed unit it raises `UNIMPL_CMD`; while busy it is refused
(41_packed_4wide.md R116). -/
def Obligations.PnegB4Result : Prop :=
  encode .pnegB4 = 0x00000002 ∧
    ∀ s : State,
      (s.busy = false → s.params.hasPacked = true → ∃ t, exec .pnegB4 s = .next t ∧ t = { s with res := t.res } ∧
        ∀ i, i < 4 → lane t.res i = 0x00 - lane s.opa i) ∧
      (s.busy = false → s.params.hasPacked = false →
        exec .pnegB4 s = .next { s with err := true, errCode := if s.err then s.errCode else 2 }) ∧
      (s.busy = true → exec .pnegB4 s = .next { s with err := true, errCode := if s.err then s.errCode else 3 })

/-- `PSAT.B4`, word 3: accepted and implemented, it copies each lane of `OPA` to `RES`, but 0x7F for 0x80, and changes
nothing else; applied twice it gives the same as once; without the packed unit it raises `UNIMPL_CMD`; while busy it is
refused (41_packed_4wide.md R117). -/
def Obligations.PsatB4Result : Prop :=
  encode .psatB4 = 0x00000003 ∧ (∀ w : Word, psat4 (psat4 w) = psat4 w) ∧
    ∀ s : State,
      (s.busy = false → s.params.hasPacked = true → ∃ t, exec .psatB4 s = .next t ∧ t = { s with res := t.res } ∧
        ∀ i, i < 4 → lane t.res i = if lane s.opa i = 0x80 then 0x7F else lane s.opa i) ∧
      (s.busy = false → s.params.hasPacked = false →
        exec .psatB4 s = .next { s with err := true, errCode := if s.err then s.errCode else 2 }) ∧
      (s.busy = true → exec .psatB4 s = .next { s with err := true, errCode := if s.err then s.errCode else 3 })

/-- `PNEGS.B4`, word 4: accepted and implemented, it writes each lane of `RES` with the saturated negation of that lane of
`OPA`, no lane of which is 0x80 and which is `psat4` of `pneg4` of `OPA`, and changes nothing else; without the packed unit
it raises `UNIMPL_CMD`; while busy it is refused (41_packed_4wide.md R118). -/
def Obligations.PnegsB4Result : Prop :=
  encode .pnegsB4 = 0x00000004 ∧
    ∀ s : State,
      (s.busy = false → s.params.hasPacked = true → ∃ t, exec .pnegsB4 s = .next t ∧ t = { s with res := t.res } ∧
        ∀ i, i < 4 →
          (lane t.res i).toInt = (if -(lane s.opa i).toInt > 127 then 127 else -(lane s.opa i).toInt) ∧
            lane t.res i ≠ 0x80 ∧ lane t.res i = lane (psat4 (pneg4 s.opa)) i) ∧
      (s.busy = false → s.params.hasPacked = false →
        exec .pnegsB4 s = .next { s with err := true, errCode := if s.err then s.errCode else 2 }) ∧
      (s.busy = true → exec .pnegsB4 s = .next { s with err := true, errCode := if s.err then s.errCode else 3 })

/-- `PNEGS.B4` leaves what `PNEG.B4` leaves followed by a copy of `RES` to `OPA` and `PSAT.B4` (41_packed_4wide.md R118). -/
def Obligations.PnegsIsPnegThenPsat : Prop :=
  ∀ s t u : State, s.busy = false → s.params.hasPacked = true →
    exec .pnegB4 s = .next t → exec .psatB4 { t with opa := t.res } = .next u →
    exec .pnegsB4 s = .next { u with opa := s.opa }

/-- Where the packed unit is absent the words 2, 3 and 4 record `UNIMPL_CMD` (code 2) and run nothing; where it is present
no CMD write ever records that code (60_exceptions.md R156). -/
def Obligations.PackedWordsNeedThePackedUnit : Prop :=
  ∀ (s : State) (v : Word), s.busy = false →
    (s.params.hasPacked = false → v = 0x00000002 ∨ v = 0x00000003 ∨ v = 0x00000004 →
      hostAction (.regWrite 0x00 4 v) s = .next { s with err := true, errCode := if s.err then s.errCode else 2 }) ∧
    (s.params.hasPacked = true →
      (v = 0x00000002 → hostAction (.regWrite 0x00 4 v) s = exec .pnegB4 s) ∧
      (v = 0x00000003 → hostAction (.regWrite 0x00 4 v) s = exec .psatB4 s) ∧
      (v = 0x00000004 → hostAction (.regWrite 0x00 4 v) s = exec .pnegsB4 s) ∧
      ∃ t, hostAction (.regWrite 0x00 4 v) s = .next t ∧ (t.errCode = 2 → s.errCode = 2))

/-! ## The start of NEGV -/

/-- An accepted `NEGV` with `LEN == 0` changes nothing (42_block_kernel.md R132). -/
def Obligations.NegvOfEmptyBufferIsNoOp : Prop :=
  ∀ s : State, s.busy = false → s.len = 0 → exec .negv s = .next s

/-- An accepted `NEGV` with `LEN != 0` sets `SEQ_J` to 0, `SEQ_MODE` to `PACKED_EN` and `BUSY` to 1, marks `WRAP` and
`OVERLAP` by the range check in mathematical integers, and changes nothing else (42_block_kernel.md R133, R134). -/
def Obligations.NegvStartsTheSequencer : Prop :=
  ∀ s : State, s.busy = false → s.len ≠ 0 →
    exec .negv s = .next { s with
      seqJ := 0, seqMode := s.packedEn, busy := true
      faults := { s.faults with
        wrap := s.faults.wrap ||
          decide (s.src.toNat + s.len.toNat > 2 ^ 32 ∨ s.dst.toNat + s.len.toNat > 2 ^ 32)
        overlap := s.faults.overlap ||
          decide (s.src ≠ s.dst ∧ s.src.toNat < s.dst.toNat + s.len.toNat ∧
            s.dst.toNat < s.src.toNat + s.len.toNat) } }

/-- What every command leaves unchanged when its CMD write is done, whether it runs or is refused: memory, `OPA`, `SRC`,
`DST`, `LEN`, `CFG`, LG, the parameters and the hosts' side; a direct command also leaves `BUSY`, the sequencer and `FAULTS`,
and `NEGV` leaves `RES` (40_scalar_q7.md R103, 41_packed_4wide.md R116 to R118, 42_block_kernel.md R130). -/
def Obligations.CommandFrame : Prop :=
  ∀ (i : Instr) (s : State), ∃ t, exec i s = .next t ∧
    t = { s with res := t.res, err := t.err, errCode := t.errCode,
                 busy := t.busy, seqJ := t.seqJ, seqMode := t.seqMode, faults := t.faults } ∧
    (i ≠ .negv → t.busy = s.busy ∧ t.seqJ = s.seqJ ∧ t.seqMode = s.seqMode ∧ t.faults = s.faults) ∧
    (i = .negv → t.res = s.res)

/-! ## The sequencer -/

/-- The group step: at the block's turn, in the wide-block strategy below `4 * (LEN / 4)` and with all eight bytes admitted,
the four destination bytes become `satneg8` of the four source bytes as they were before the step, every other byte stays,
`SEQ_J` advances by 4, `BUSY` falls exactly at `LEN`, and nothing else changes but LG, which is free (42_block_kernel.md R135). -/
def Obligations.GroupStepEffect : Prop :=
  ∀ (s : State) (ts : List Turn), s.turns = .block :: ts → s.busy = true → s.seqMode = true →
    s.seqJ.toNat < 4 * (s.len.toNat / 4) →
    (∀ i, i < 4 → memAdmit s.params (s.src + s.seqJ + BitVec.ofNat 32 i) = true ∧
      memAdmit s.params (s.dst + s.seqJ + BitVec.ofNat 32 i) = true) →
    ∃ t, step s = .next t ∧
      (∀ i, i < 4 → memByte t.mem (s.dst + s.seqJ + BitVec.ofNat 32 i) =
        satneg8 (memByte s.mem (s.src + s.seqJ + BitVec.ofNat 32 i))) ∧
      (∀ a, (∀ i, i < 4 → a ≠ s.dst + s.seqJ + BitVec.ofNat 32 i) → memByte t.mem a = memByte s.mem a) ∧
      t = { s with turns := ts, mem := t.mem, lg := t.lg, draws := t.draws,
                   seqJ := s.seqJ + 4, busy := decide (s.seqJ + 4 ≠ s.len) }

/-- The scalar step: at the block's turn, in the scalar strategy or in the remainder and with both bytes admitted, the
destination byte becomes `satneg8` of the source byte, every other byte stays, `SEQ_J` advances by 1, `BUSY` falls exactly at
`LEN`, and nothing else changes (42_block_kernel.md R136). -/
def Obligations.ScalarStepEffect : Prop :=
  ∀ (s : State) (ts : List Turn), s.turns = .block :: ts → s.busy = true →
    (s.seqMode = false ∨ 4 * (s.len.toNat / 4) ≤ s.seqJ.toNat) →
    memAdmit s.params (s.src + s.seqJ) = true → memAdmit s.params (s.dst + s.seqJ) = true →
    ∃ t, step s = .next t ∧
      memByte t.mem (s.dst + s.seqJ) = satneg8 (memByte s.mem (s.src + s.seqJ)) ∧
      (∀ a, a ≠ s.dst + s.seqJ → memByte t.mem a = memByte s.mem a) ∧
      t = { s with turns := ts, mem := t.mem, seqJ := s.seqJ + 1, busy := decide (s.seqJ + 1 ≠ s.len) }

/-- A sequencer step that is about to touch a byte the platform does not admit is not enabled: the block's turn changes
nothing, and `BUSY` stays 1 (20_memory.md R58; that the turn passes is log 13's). -/
def Obligations.UnadmittedAccessIsStuck : Prop :=
  ∀ (s : State) (ts : List Turn) (i : Nat), s.turns = .block :: ts → s.busy = true →
    i < (if s.seqMode = true ∧ s.seqJ.toNat < 4 * (s.len.toNat / 4) then 4 else 1) →
    memAdmit s.params (s.src + s.seqJ + BitVec.ofNat 32 i) = false ∨
      memAdmit s.params (s.dst + s.seqJ + BitVec.ofNat 32 i) = false →
    step s = .next { s with turns := ts }

/-- A step stops the machine in one case only, with a fault: the block is stuck, and no turn and no host transaction is
waiting. No step is refused (log 13, resting on 20_memory.md R58). -/
def Obligations.StopsOnlyWhenStuckAndAlone : Prop :=
  (∀ (s : State) (f : Fault), step s = .fault f ↔
    s.turns = [] ∧ s.host = [] ∧ s.busy = true ∧ sequencerStep s = none) ∧
    ∀ (s : State) (r : Refusal), step s ≠ .refused r

/-- An idle block has no sequencer step: its turn changes nothing, and with no turn and no host transaction waiting the
machine stays as it is (42_block_kernel.md R138, 60_exceptions.md R169; that a turn passes is the model's, logs 11, 12). -/
def Obligations.IdleBlockTakesNoStep : Prop :=
  ∀ s : State, s.busy = false →
    sequencerStep s = none ∧ (∀ ts, s.turns = .block :: ts → step s = .next { s with turns := ts }) ∧
      (s.turns = [] → s.host = [] → step s = .next s)

/-- `MEM_ADMIT` is what the platform's ranges say, but false on the whole register window (20_memory.md R60, log 3). -/
def Obligations.AdmissionExcludesTheWindow : Prop :=
  ∀ (p : Params) (a : Addr), memAdmit p a = true ↔
    ¬ (p.blockPage.toNat * 256 ≤ a.toNat ∧ a.toNat < p.blockPage.toNat * 256 + 256) ∧
      ∃ r ∈ p.admitted, r.base ≤ a.toNat ∧ a.toNat < r.base + r.size

/-- Group reads and writes are little-endian: lane `i` is the byte at `a + i`, sums modulo 2^32, and a write leaves every
other byte (20_memory.md R53, 00_scope.md R14). -/
def Obligations.GroupAccessIsLittleEndian : Prop :=
  ∀ (s : State) (a : Addr) (v : Word),
    (∀ i, i < 4 → lane (memRead4 s a) i = memByte s.mem (a + BitVec.ofNat 32 i)) ∧
      (∀ i, i < 4 → memByte (memWrite4 a v s).mem (a + BitVec.ofNat 32 i) = lane v i) ∧
      ∀ a', (∀ i, i < 4 → a' ≠ a + BitVec.ofNat 32 i) → memByte (memWrite4 a v s).mem a' = memByte s.mem a'

/-- Where the packed unit is absent the sequencer never selects a group step (42_block_kernel.md R131). -/
def Obligations.NoPackedUnitMeansScalarSteps : Prop :=
  ∀ s : State, s.Inv → s.params.hasPacked = false → selectsGroup s = false

/-! ## A whole NEGV -/

/-- The end-state contract of a `NEGV` on legal, admitted buffers, in either strategy, in place included: after the
sequencer's steps `BUSY` is 0, every destination byte is `satneg8` of the source byte at the start, every other byte is as it
was, and nothing else changed but the internal registers (42_block_kernel.md R139, R141). -/
def Obligations.NegvEndState : Prop :=
  ∀ (s s1 : State), s.busy = false → s.len ≠ 0 → s.buffersLegal → s.buffersAdmitted → exec .negv s = .next s1 →
    ∃ t, t = blockRun (sequencerSteps s.packedEn s.len) s1 ∧ t.busy = false ∧
      (∀ j, j < s.len.toNat → memByte t.mem (bufferAddr s.dst j) = satneg8 (memByte s.mem (bufferAddr s.src j))) ∧
      (∀ a, (∀ j, j < s.len.toNat → a ≠ bufferAddr s.dst j) → memByte t.mem a = memByte s.mem a) ∧
      t = { s with mem := t.mem, lg := t.lg, draws := t.draws, seqJ := s.len, seqMode := s.packedEn }

/-- The step counts: `LEN / 4 + LEN % 4` sequencer steps in the wide-block strategy and `LEN` in the scalar one. After fewer
block turns `BUSY` is still 1 (70_reset_and_hazards.md R189). -/
def Obligations.NegvStepCounts : Prop :=
  ∀ (s s1 : State) (k : Nat), s.busy = false → s.len ≠ 0 → s.buffersAdmitted → exec .negv s = .next s1 →
    (blockRun k s1).busy =
      decide (k < if s.packedEn then s.len.toNat / 4 + s.len.toNat % 4 else s.len.toNat)

/-- The wide-block and the scalar strategy leave the same memory and the same registers (42_block_kernel.md R140): the
wide-block path is "never a semantic variant" (70_reset_and_hazards.md R190). -/
def Obligations.StrategiesAreEquivalent : Prop :=
  ∀ (s w c : State), s.busy = false → s.buffersLegal → s.buffersAdmitted →
    exec .negv { s with packedEn := true } = .next w → exec .negv { s with packedEn := false } = .next c →
    ∃ tw tc, tw = blockRun (sequencerSteps true s.len) w ∧ tc = blockRun (sequencerSteps false s.len) c ∧
      tw.busy = false ∧ tc.busy = false ∧
      (∀ a, memByte tw.mem a = memByte tc.mem a) ∧
      tw = { tc with packedEn := true, mem := tw.mem, seqMode := tw.seqMode, lg := tw.lg, draws := tw.draws }

/-- A start that marks no fault begins a `NEGV` of which nothing is done and every source byte is as it was. -/
def Obligations.StartBeginsProgress : Prop :=
  ∀ (s t : State), s.busy = false → s.len ≠ 0 → exec .negv s = .next t → t.clean → NegvProgress s.mem t

/-- Whatever agent moves, a step other than a reset that marks no fault keeps what a running `NEGV` has reached: the elements
below `SEQ_J` are done, the source bytes of the others are as at the start. When `BUSY` falls, every element is done: a host
that sees `BUSY == 0` finds the whole destination (42_block_kernel.md R139, R141; 20_memory.md R64). -/
def Obligations.EveryStepKeepsNegvProgress : Prop :=
  ∀ (m0 : Memory) (s t : State), s.Inv → s.busy = true → NegvProgress m0 s → s.turns.head? ≠ some .reset →
    step s = .next t → t.clean →
    NegvProgress m0 t ∧
      (t.busy = false → ∀ j, j < s.len.toNat →
        memByte t.mem (bufferAddr s.dst j) = satneg8 (memByte m0 (bufferAddr s.src j)))

/-! ## Invariants and rules of the whole machine -/

/-- Every step keeps the machine's invariant. -/
def Obligations.EveryStepKeepsTheInvariant : Prop :=
  ∀ s t : State, s.Inv → step s = .next t → t.Inv

/-- The invariant holds after reset, for every choice of the parameters. -/
def Obligations.ResetMeetsTheInvariant : Prop := ∀ p : Params, (State.resetWith p).Inv

/-- No step changes the parameters, so `CAP` is constant: a read of it returns `zext_32(HAS_PACKED)` and a write is ignored,
busy or not (10_state.md R28, R29). -/
def Obligations.CapIsConstant : Prop :=
  (∀ s t : State, step s = .next t → t.params = s.params) ∧
    ∀ (s : State) (v : Word),
      hostAction (.regRead 0x0C 4) s = .next { s with readData := some (if s.params.hasPacked then 1 else 0) } ∧
        hostAction (.regWrite 0x0C 4 v) s = .next s

/-- `BUSY` rises only by an accepted CMD write of the `NEGV` word with `LEN != 0`, and falls only by a reset or by the
sequencer step that reaches `LEN` (10_state.md R22). -/
def Obligations.OnlyNegvSetsBusy : Prop :=
  ∀ s t : State, step s = .next t →
    (s.busy = false → t.busy = true → s.len ≠ 0 ∧ ∃ rest, s.host = .regWrite 0x00 4 0x00000005 :: rest) ∧
      (s.busy = true → t.busy = false → s.turns.head? = some .reset ∨ (sequencerStep (s.setTurns s.turns.tail) = some t ∧
        t.seqJ = s.len))

/-- `RES` changes only by a reset or by an accepted direct command: a host write to `RES`, `NEGV` and its sequencer never
write it (10_state.md R31). -/
def Obligations.OnlyDirectCommandsWriteRes : Prop :=
  ∀ s t : State, step s = .next t → t.res ≠ s.res →
    s.turns.head? = some .reset ∨
      (s.busy = false ∧ ∃ v rest, s.host = .regWrite 0x00 4 v :: rest ∧ 1 ≤ v.toNat ∧ v.toNat ≤ 4)

/-- While `BUSY == 1` no step but a reset changes the sequencer's operands, its mode, `OPA` or `RES`
(42_block_kernel.md R133, 70_reset_and_hazards.md R187). -/
def Obligations.OperandsAreFixedWhileBusy : Prop :=
  ∀ s t : State, step s = .next t → s.busy = true → s.turns.head? ≠ some .reset →
    t.src = s.src ∧ t.dst = s.dst ∧ t.len = s.len ∧ t.packedEn = s.packedEn ∧ t.seqMode = s.seqMode ∧
      t.opa = s.opa ∧ t.res = s.res

/-- A byte of the data memory changes only by the sequencer's own step, inside the destination buffer of the running `NEGV`,
or by a host's own store to it; a reset changes none (20_memory.md R51, 70_reset_and_hazards.md R182). -/
def Obligations.MemoryChangesOnlyInTheDestination : Prop :=
  ∀ (s t : State) (a : Addr), s.Inv → step s = .next t → memByte t.mem a ≠ memByte s.mem a →
    s.turns.head? ≠ some .reset ∧
      ((sequencerStep (s.setTurns s.turns.tail) = some t ∧ s.busy = true ∧
          ∃ j, j < s.len.toNat ∧ a = bufferAddr s.dst j) ∨
        ∃ b rest, s.host = .memStore a b :: rest ∧
          hostAction (.memStore a b) { s with host := rest, turns := s.turns.tail } = .next t)

/-- `FAULTS` is empty at launch, no step removes a reason from it, a reset included, and a final state has none
(10_state.md R43). What else a final state asks for is the model's (log 27), and nothing here rests on it. -/
def Obligations.FaultsGrowOnly : Prop :=
  (∀ p : Params, (State.resetWith p).faults = FaultSet.empty) ∧
    (∀ s t : State, step s = .next t →
      (s.faults.overlap = true → t.faults.overlap = true) ∧ (s.faults.wrap = true → t.faults.wrap = true) ∧
        (s.faults.race = true → t.faults.race = true) ∧
        (s.faults.badRegAccess = true → t.faults.badRegAccess = true)) ∧
    ∀ s : State, s.faults ≠ FaultSet.empty → ¬ s.final

/-! ## Errors -/

/-- `STATUS.ERR` and `STATUS.ERRCODE` change only by a reset or a host's register write: no sequencer step and no read
raises an error (60_exceptions.md R150). -/
def Obligations.OnlyRegisterWritesTouchErrors : Prop :=
  ∀ s t : State, step s = .next t → (t.err ≠ s.err ∨ t.errCode ≠ s.errCode) →
    s.turns.head? = some .reset ∨ ∃ off v rest, s.host = .regWrite off 4 v :: rest

/-- The first error wins: while `ERR` stays 1 no step changes `ERRCODE` (60_exceptions.md R153). -/
def Obligations.FirstErrorCodeStays : Prop :=
  ∀ s t : State, step s = .next t → s.err = true → t.err = true → t.errCode = s.errCode

/-- While busy, a write to CMD, CFG, OPA, SRC, DST or LEN only records `BUSY` (code 3, if no error is recorded yet), and a
CMD word is not decoded; a write to any other legal offset raises nothing (60_exceptions.md R155). -/
def Obligations.WritesWhileBusyAreRefused : Prop :=
  ∀ (s : State) (off : Nat) (v : Word), s.busy = true → off % 4 = 0 → off < 0x100 →
    hostAction (.regWrite off 4 v) s = .next
      (if off ∈ [0x00, 0x08, 0x10, 0x18, 0x1C, 0x20] then
        { s with err := true, errCode := if s.err then s.errCode else 3 }
      else if off = 0x04 ∧ v.getLsbD 1 = true then { s with err := false, errCode := 0 }
      else s)

/-- Errors do not block: a command does the same with any error recorded, but for what is recorded (60_exceptions.md R160). -/
def Obligations.ErrorsDoNotBlock : Prop :=
  ∀ (i : Instr) (s : State) (e : Bool) (c : BitVec 4), ∃ t u,
    exec i s = .next t ∧ exec i { s with err := e, errCode := c } = .next u ∧
      u = { t with err := u.err, errCode := u.errCode }

/-! ## The register port and the host's memory accesses -/

/-- `STATUS` reads as `{24'b0, ERRCODE, 2'b00, ERR, BUSY}`; a write with bit 1 set clears `ERR` and `ERRCODE`, any other
write does nothing, busy or not (10_state.md R25). -/
def Obligations.StatusReadAndClear : Prop :=
  ∀ s : State,
    (∃ w : Word, hostAction (.regRead 0x04 4) s = .next { s with readData := some w } ∧
      w.getLsbD 0 = s.busy ∧ w.getLsbD 1 = s.err ∧ w.extractLsb' 2 2 = 0 ∧ w.extractLsb' 4 4 = s.errCode ∧
      w.extractLsb' 8 24 = 0) ∧
    ∀ v : Word, hostAction (.regWrite 0x04 4 v) s =
      .next (if v.getLsbD 1 then { s with err := false, errCode := 0 } else s)

/-- `CFG` reads as `{31'b0, PACKED_EN}`, and an accepted write sets `PACKED_EN` to `v[0] AND HAS_PACKED`
(10_state.md R26, R27). -/
def Obligations.CfgReadAndWrite : Prop :=
  ∀ s : State,
    hostAction (.regRead 0x08 4) s = .next { s with readData := some (if s.packedEn then 1 else 0) } ∧
      ∀ v : Word, s.busy = false →
        hostAction (.regWrite 0x08 4 v) s = .next { s with packedEn := v.getLsbD 0 && s.params.hasPacked }

/-- `OPA`, `SRC`, `DST` and `LEN` read back, and an accepted write sets the one it names and nothing else
(10_state.md R30, R32 to R34). -/
def Obligations.OperandRegistersReadAndWrite : Prop :=
  ∀ s : State,
    hostAction (.regRead 0x10 4) s = .next { s with readData := some s.opa } ∧
      hostAction (.regRead 0x18 4) s = .next { s with readData := some s.src } ∧
      hostAction (.regRead 0x1C 4) s = .next { s with readData := some s.dst } ∧
      hostAction (.regRead 0x20 4) s = .next { s with readData := some s.len } ∧
      ∀ v : Word, s.busy = false →
        hostAction (.regWrite 0x10 4 v) s = .next { s with opa := v } ∧
          hostAction (.regWrite 0x18 4 v) s = .next { s with src := v } ∧
          hostAction (.regWrite 0x1C 4 v) s = .next { s with dst := v } ∧
          hostAction (.regWrite 0x20 4 v) s = .next { s with len := v }

/-- `CMD` and the reserved offsets read 0, `RES` reads its value, and writes to `RES` and the reserved offsets are ignored,
busy or not (10_state.md R21, R31, R35). -/
def Obligations.ReadOnlyAndReservedOffsets : Prop :=
  ∀ s : State,
    hostAction (.regRead 0x00 4) s = .next { s with readData := some 0 } ∧
      hostAction (.regRead 0x14 4) s = .next { s with readData := some s.res } ∧
      (∀ v : Word, hostAction (.regWrite 0x14 4 v) s = .next s) ∧
      ∀ off : Nat, 0x24 ≤ off → off < 0x100 → off % 4 = 0 →
        hostAction (.regRead off 4) s = .next { s with readData := some 0 } ∧
          ∀ v : Word, hostAction (.regWrite off 4 v) s = .next s

/-- A legal register read changes no register and no memory: only what the host has read (20_memory.md R60). -/
def Obligations.RegisterReadsHaveNoSideEffect : Prop :=
  ∀ (s : State) (off : Nat), off % 4 = 0 → off < 0x100 →
    ∃ w, hostAction (.regRead off 4) s = .next { s with readData := some w }

/-- A register access that is not 32 bits wide at a multiple of 4 below 0x100 marks `BAD_REG_ACCESS` (10_state.md R20);
it reaches no register, and a read returns some value (log 7). -/
def Obligations.BadRegisterAccessIsMarked : Prop :=
  ∀ (s : State) (off size : Nat) (v : Word), ¬ (size = 4 ∧ off % 4 = 0 ∧ off < 0x100) →
    hostAction (.regWrite off size v) s = .next { s with faults := { s.faults with badRegAccess := true } } ∧
      ∃ w n, hostAction (.regRead off size) s =
        .next { s with faults := { s.faults with badRegAccess := true }, readData := some w, draws := n }

/-- A host store outside the register window writes its byte and no other, and marks `RACE` exactly if a `NEGV` is running
and the byte is one of its source or destination buffer (20_memory.md R65 (a), (b)). The buffer bytes are `SRC + j` and
`DST + j` modulo 2^32 (log 14); where the buffers do not wrap, these are the intervals of the rule. That a store to an address
`MEM_ADMIT` does not admit is performed too is the model's choice (log 9). -/
def Obligations.HostStoreWritesAndMarksRace : Prop :=
  ∀ (s : State) (a : Addr) (b : Byte),
    ¬ (s.params.blockPage.toNat * 256 ≤ a.toNat ∧ a.toNat < s.params.blockPage.toNat * 256 + 256) →
    ∃ t, hostAction (.memStore a b) s = .next t ∧ memByte t.mem a = b ∧
      (∀ a', a' ≠ a → memByte t.mem a' = memByte s.mem a') ∧
      t = { s with mem := t.mem, faults := { s.faults with race := t.faults.race } } ∧
      (t.faults.race = true ↔ s.faults.race = true ∨
        (s.busy = true ∧ ∃ j, j < s.len.toNat ∧ (a = bufferAddr s.src j ∨ a = bufferAddr s.dst j))) ∧
      (s.src.toNat + s.len.toNat ≤ 2 ^ 32 → s.dst.toNat + s.len.toNat ≤ 2 ^ 32 →
        t.faults.race = (s.faults.race || (s.busy &&
          (decide (s.src.toNat ≤ a.toNat ∧ a.toNat < s.src.toNat + s.len.toNat) ||
            decide (s.dst.toNat ≤ a.toNat ∧ a.toNat < s.dst.toNat + s.len.toNat)))))

/-- A host load outside the register window returns the memory byte, and marks `RACE` exactly if a `NEGV` is running and the
byte is one of its destination buffer: a read of a source byte outside it is no race (20_memory.md R65 (c)). The buffer bytes
are `DST + j` modulo 2^32 (log 14); where the buffer does not wrap, these are the interval of the rule. That a load from an
address `MEM_ADMIT` does not admit returns a byte too is the model's choice (log 9), and so is that the byte is kept
zero-extended in `readData` (log 10). -/
def Obligations.HostLoadReadsAndMarksRace : Prop :=
  ∀ (s : State) (a : Addr),
    ¬ (s.params.blockPage.toNat * 256 ≤ a.toNat ∧ a.toNat < s.params.blockPage.toNat * 256 + 256) →
    ∃ t, hostAction (.memLoad a) s = .next t ∧
      t = { s with
        readData := some ((memByte s.mem a).setWidth 32)
        faults := { s.faults with race := t.faults.race } } ∧
      (t.faults.race = true ↔ s.faults.race = true ∨
        (s.busy = true ∧ ∃ j, j < s.len.toNat ∧ a = bufferAddr s.dst j)) ∧
      (s.dst.toNat + s.len.toNat ≤ 2 ^ 32 →
        t.faults.race = (s.faults.race ||
          (s.busy && decide (s.dst.toNat ≤ a.toNat ∧ a.toNat < s.dst.toNat + s.len.toNat))))

/-- A host byte access inside the register window is a bad register access (10_state.md R20, 1-byte access): it reaches
neither the registers nor the memory (logs 7, 8), and marks no `RACE`, even at an address of a busy buffer (log 26). -/
def Obligations.ByteAccessInTheWindowIsBad : Prop :=
  ∀ (s : State) (a : Addr) (b : Byte), s.params.blockPage.toNat * 256 ≤ a.toNat →
    a.toNat < s.params.blockPage.toNat * 256 + 256 →
    hostAction (.memStore a b) s = .next { s with faults := { s.faults with badRegAccess := true } } ∧
      ∃ w n, hostAction (.memLoad a) s =
        .next { s with faults := { s.faults with badRegAccess := true }, readData := some w, draws := n }

/-- `poll` reads `STATUS`, and waits for another round exactly while bit 0 of the value read is 1 (30_encoding.md R80;
log 19). -/
def Obligations.PollRepeatsWhileBusy : Prop :=
  ∀ s : State, ∃ w : Word, w.getLsbD 0 = s.busy ∧
    hostAction (.regRead 0x04 4) s = .next { s with readData := some w } ∧
    hostAction .poll s = .next { s with readData := some w, host := if w.getLsbD 0 then .poll :: s.host else s.host }

/-! ## Reset -/

/-- The reset event, at any step: every register takes the value of the table of 70_reset_and_hazards.md R180; LG is
unspecified; the data memory and `FAULTS` stay, and the parameters are constants. Nothing is said of the hosts' fields. -/
def Obligations.ResetEventEffect : Prop :=
  ∀ (s : State) (ts : List Turn), s.turns = .reset :: ts →
    ∃ t, step s = .next t ∧
      t = { s with
        busy := false, err := false, errCode := 0, packedEn := false, opa := 0, res := 0, src := 0, dst := 0, len := 0,
        seqJ := 0, seqMode := false, lg := t.lg, draws := t.draws, turns := t.turns, host := t.host,
        readData := t.readData } ∧
      statusWord t = 0 ∧ capWord t = if s.params.hasPacked then 1 else 0

/-- The state right after reset, for every choice of the parameters: the registers of 70_reset_and_hazards.md R180 at their
values, nothing written to memory and `FAULTS` empty (10_state.md R43, R44). LG's value (log 5) is not stated. -/
def Obligations.ResetStateValues : Prop :=
  ∀ p : Params, ∃ t, t = State.resetWith p ∧
    t.busy = false ∧ t.err = false ∧ t.errCode = 0 ∧ t.packedEn = false ∧ t.opa = 0 ∧ t.res = 0 ∧ t.src = 0 ∧
      t.dst = 0 ∧ t.len = 0 ∧ t.seqJ = 0 ∧ t.seqMode = false ∧ t.mem = [] ∧ t.faults = FaultSet.empty ∧
      t.params = p ∧ State.reset = State.resetWith Params.atReset
end

