-- ==== Sys2Proof/Laws/State.lean ====
section
/-!
SUPPORT. What each setter does to each field, one lemma for each pair, each true by definition: no later proof unfolds a
record update.
-/

namespace Sys2Proof.Machine

section
variable (s : State) (v : Bool)

@[simp] theorem State.setBusy_busy : (s.setBusy v).busy = v := rfl
@[simp] theorem State.setBusy_err : (s.setBusy v).err = s.err := rfl
@[simp] theorem State.setBusy_errCode : (s.setBusy v).errCode = s.errCode := rfl
@[simp] theorem State.setBusy_packedEn : (s.setBusy v).packedEn = s.packedEn := rfl
@[simp] theorem State.setBusy_opa : (s.setBusy v).opa = s.opa := rfl
@[simp] theorem State.setBusy_res : (s.setBusy v).res = s.res := rfl
@[simp] theorem State.setBusy_src : (s.setBusy v).src = s.src := rfl
@[simp] theorem State.setBusy_dst : (s.setBusy v).dst = s.dst := rfl
@[simp] theorem State.setBusy_len : (s.setBusy v).len = s.len := rfl
@[simp] theorem State.setBusy_seqJ : (s.setBusy v).seqJ = s.seqJ := rfl
@[simp] theorem State.setBusy_seqMode : (s.setBusy v).seqMode = s.seqMode := rfl
@[simp] theorem State.setBusy_lg : (s.setBusy v).lg = s.lg := rfl
@[simp] theorem State.setBusy_mem : (s.setBusy v).mem = s.mem := rfl
@[simp] theorem State.setBusy_faults : (s.setBusy v).faults = s.faults := rfl
@[simp] theorem State.setBusy_params : (s.setBusy v).params = s.params := rfl
@[simp] theorem State.setBusy_draws : (s.setBusy v).draws = s.draws := rfl
@[simp] theorem State.setBusy_readData : (s.setBusy v).readData = s.readData := rfl
@[simp] theorem State.setBusy_host : (s.setBusy v).host = s.host := rfl
@[simp] theorem State.setBusy_turns : (s.setBusy v).turns = s.turns := rfl

end

section
variable (s : State) (v : Bool)

@[simp] theorem State.setErr_busy : (s.setErr v).busy = s.busy := rfl
@[simp] theorem State.setErr_err : (s.setErr v).err = v := rfl
@[simp] theorem State.setErr_errCode : (s.setErr v).errCode = s.errCode := rfl
@[simp] theorem State.setErr_packedEn : (s.setErr v).packedEn = s.packedEn := rfl
@[simp] theorem State.setErr_opa : (s.setErr v).opa = s.opa := rfl
@[simp] theorem State.setErr_res : (s.setErr v).res = s.res := rfl
@[simp] theorem State.setErr_src : (s.setErr v).src = s.src := rfl
@[simp] theorem State.setErr_dst : (s.setErr v).dst = s.dst := rfl
@[simp] theorem State.setErr_len : (s.setErr v).len = s.len := rfl
@[simp] theorem State.setErr_seqJ : (s.setErr v).seqJ = s.seqJ := rfl
@[simp] theorem State.setErr_seqMode : (s.setErr v).seqMode = s.seqMode := rfl
@[simp] theorem State.setErr_lg : (s.setErr v).lg = s.lg := rfl
@[simp] theorem State.setErr_mem : (s.setErr v).mem = s.mem := rfl
@[simp] theorem State.setErr_faults : (s.setErr v).faults = s.faults := rfl
@[simp] theorem State.setErr_params : (s.setErr v).params = s.params := rfl
@[simp] theorem State.setErr_draws : (s.setErr v).draws = s.draws := rfl
@[simp] theorem State.setErr_readData : (s.setErr v).readData = s.readData := rfl
@[simp] theorem State.setErr_host : (s.setErr v).host = s.host := rfl
@[simp] theorem State.setErr_turns : (s.setErr v).turns = s.turns := rfl

end

section
variable (s : State) (v : BitVec 4)

@[simp] theorem State.setErrCode_busy : (s.setErrCode v).busy = s.busy := rfl
@[simp] theorem State.setErrCode_err : (s.setErrCode v).err = s.err := rfl
@[simp] theorem State.setErrCode_errCode : (s.setErrCode v).errCode = v := rfl
@[simp] theorem State.setErrCode_packedEn : (s.setErrCode v).packedEn = s.packedEn := rfl
@[simp] theorem State.setErrCode_opa : (s.setErrCode v).opa = s.opa := rfl
@[simp] theorem State.setErrCode_res : (s.setErrCode v).res = s.res := rfl
@[simp] theorem State.setErrCode_src : (s.setErrCode v).src = s.src := rfl
@[simp] theorem State.setErrCode_dst : (s.setErrCode v).dst = s.dst := rfl
@[simp] theorem State.setErrCode_len : (s.setErrCode v).len = s.len := rfl
@[simp] theorem State.setErrCode_seqJ : (s.setErrCode v).seqJ = s.seqJ := rfl
@[simp] theorem State.setErrCode_seqMode : (s.setErrCode v).seqMode = s.seqMode := rfl
@[simp] theorem State.setErrCode_lg : (s.setErrCode v).lg = s.lg := rfl
@[simp] theorem State.setErrCode_mem : (s.setErrCode v).mem = s.mem := rfl
@[simp] theorem State.setErrCode_faults : (s.setErrCode v).faults = s.faults := rfl
@[simp] theorem State.setErrCode_params : (s.setErrCode v).params = s.params := rfl
@[simp] theorem State.setErrCode_draws : (s.setErrCode v).draws = s.draws := rfl
@[simp] theorem State.setErrCode_readData : (s.setErrCode v).readData = s.readData := rfl
@[simp] theorem State.setErrCode_host : (s.setErrCode v).host = s.host := rfl
@[simp] theorem State.setErrCode_turns : (s.setErrCode v).turns = s.turns := rfl

end

section
variable (s : State) (v : Bool)

@[simp] theorem State.setPackedEn_busy : (s.setPackedEn v).busy = s.busy := rfl
@[simp] theorem State.setPackedEn_err : (s.setPackedEn v).err = s.err := rfl
@[simp] theorem State.setPackedEn_errCode : (s.setPackedEn v).errCode = s.errCode := rfl
@[simp] theorem State.setPackedEn_packedEn : (s.setPackedEn v).packedEn = v := rfl
@[simp] theorem State.setPackedEn_opa : (s.setPackedEn v).opa = s.opa := rfl
@[simp] theorem State.setPackedEn_res : (s.setPackedEn v).res = s.res := rfl
@[simp] theorem State.setPackedEn_src : (s.setPackedEn v).src = s.src := rfl
@[simp] theorem State.setPackedEn_dst : (s.setPackedEn v).dst = s.dst := rfl
@[simp] theorem State.setPackedEn_len : (s.setPackedEn v).len = s.len := rfl
@[simp] theorem State.setPackedEn_seqJ : (s.setPackedEn v).seqJ = s.seqJ := rfl
@[simp] theorem State.setPackedEn_seqMode : (s.setPackedEn v).seqMode = s.seqMode := rfl
@[simp] theorem State.setPackedEn_lg : (s.setPackedEn v).lg = s.lg := rfl
@[simp] theorem State.setPackedEn_mem : (s.setPackedEn v).mem = s.mem := rfl
@[simp] theorem State.setPackedEn_faults : (s.setPackedEn v).faults = s.faults := rfl
@[simp] theorem State.setPackedEn_params : (s.setPackedEn v).params = s.params := rfl
@[simp] theorem State.setPackedEn_draws : (s.setPackedEn v).draws = s.draws := rfl
@[simp] theorem State.setPackedEn_readData : (s.setPackedEn v).readData = s.readData := rfl
@[simp] theorem State.setPackedEn_host : (s.setPackedEn v).host = s.host := rfl
@[simp] theorem State.setPackedEn_turns : (s.setPackedEn v).turns = s.turns := rfl

end

section
variable (s : State) (v : Word)

@[simp] theorem State.setOpa_busy : (s.setOpa v).busy = s.busy := rfl
@[simp] theorem State.setOpa_err : (s.setOpa v).err = s.err := rfl
@[simp] theorem State.setOpa_errCode : (s.setOpa v).errCode = s.errCode := rfl
@[simp] theorem State.setOpa_packedEn : (s.setOpa v).packedEn = s.packedEn := rfl
@[simp] theorem State.setOpa_opa : (s.setOpa v).opa = v := rfl
@[simp] theorem State.setOpa_res : (s.setOpa v).res = s.res := rfl
@[simp] theorem State.setOpa_src : (s.setOpa v).src = s.src := rfl
@[simp] theorem State.setOpa_dst : (s.setOpa v).dst = s.dst := rfl
@[simp] theorem State.setOpa_len : (s.setOpa v).len = s.len := rfl
@[simp] theorem State.setOpa_seqJ : (s.setOpa v).seqJ = s.seqJ := rfl
@[simp] theorem State.setOpa_seqMode : (s.setOpa v).seqMode = s.seqMode := rfl
@[simp] theorem State.setOpa_lg : (s.setOpa v).lg = s.lg := rfl
@[simp] theorem State.setOpa_mem : (s.setOpa v).mem = s.mem := rfl
@[simp] theorem State.setOpa_faults : (s.setOpa v).faults = s.faults := rfl
@[simp] theorem State.setOpa_params : (s.setOpa v).params = s.params := rfl
@[simp] theorem State.setOpa_draws : (s.setOpa v).draws = s.draws := rfl
@[simp] theorem State.setOpa_readData : (s.setOpa v).readData = s.readData := rfl
@[simp] theorem State.setOpa_host : (s.setOpa v).host = s.host := rfl
@[simp] theorem State.setOpa_turns : (s.setOpa v).turns = s.turns := rfl

end

section
variable (s : State) (v : Word)

@[simp] theorem State.setRes_busy : (s.setRes v).busy = s.busy := rfl
@[simp] theorem State.setRes_err : (s.setRes v).err = s.err := rfl
@[simp] theorem State.setRes_errCode : (s.setRes v).errCode = s.errCode := rfl
@[simp] theorem State.setRes_packedEn : (s.setRes v).packedEn = s.packedEn := rfl
@[simp] theorem State.setRes_opa : (s.setRes v).opa = s.opa := rfl
@[simp] theorem State.setRes_res : (s.setRes v).res = v := rfl
@[simp] theorem State.setRes_src : (s.setRes v).src = s.src := rfl
@[simp] theorem State.setRes_dst : (s.setRes v).dst = s.dst := rfl
@[simp] theorem State.setRes_len : (s.setRes v).len = s.len := rfl
@[simp] theorem State.setRes_seqJ : (s.setRes v).seqJ = s.seqJ := rfl
@[simp] theorem State.setRes_seqMode : (s.setRes v).seqMode = s.seqMode := rfl
@[simp] theorem State.setRes_lg : (s.setRes v).lg = s.lg := rfl
@[simp] theorem State.setRes_mem : (s.setRes v).mem = s.mem := rfl
@[simp] theorem State.setRes_faults : (s.setRes v).faults = s.faults := rfl
@[simp] theorem State.setRes_params : (s.setRes v).params = s.params := rfl
@[simp] theorem State.setRes_draws : (s.setRes v).draws = s.draws := rfl
@[simp] theorem State.setRes_readData : (s.setRes v).readData = s.readData := rfl
@[simp] theorem State.setRes_host : (s.setRes v).host = s.host := rfl
@[simp] theorem State.setRes_turns : (s.setRes v).turns = s.turns := rfl

end

section
variable (s : State) (v : Word)

@[simp] theorem State.setSrc_busy : (s.setSrc v).busy = s.busy := rfl
@[simp] theorem State.setSrc_err : (s.setSrc v).err = s.err := rfl
@[simp] theorem State.setSrc_errCode : (s.setSrc v).errCode = s.errCode := rfl
@[simp] theorem State.setSrc_packedEn : (s.setSrc v).packedEn = s.packedEn := rfl
@[simp] theorem State.setSrc_opa : (s.setSrc v).opa = s.opa := rfl
@[simp] theorem State.setSrc_res : (s.setSrc v).res = s.res := rfl
@[simp] theorem State.setSrc_src : (s.setSrc v).src = v := rfl
@[simp] theorem State.setSrc_dst : (s.setSrc v).dst = s.dst := rfl
@[simp] theorem State.setSrc_len : (s.setSrc v).len = s.len := rfl
@[simp] theorem State.setSrc_seqJ : (s.setSrc v).seqJ = s.seqJ := rfl
@[simp] theorem State.setSrc_seqMode : (s.setSrc v).seqMode = s.seqMode := rfl
@[simp] theorem State.setSrc_lg : (s.setSrc v).lg = s.lg := rfl
@[simp] theorem State.setSrc_mem : (s.setSrc v).mem = s.mem := rfl
@[simp] theorem State.setSrc_faults : (s.setSrc v).faults = s.faults := rfl
@[simp] theorem State.setSrc_params : (s.setSrc v).params = s.params := rfl
@[simp] theorem State.setSrc_draws : (s.setSrc v).draws = s.draws := rfl
@[simp] theorem State.setSrc_readData : (s.setSrc v).readData = s.readData := rfl
@[simp] theorem State.setSrc_host : (s.setSrc v).host = s.host := rfl
@[simp] theorem State.setSrc_turns : (s.setSrc v).turns = s.turns := rfl

end

section
variable (s : State) (v : Word)

@[simp] theorem State.setDst_busy : (s.setDst v).busy = s.busy := rfl
@[simp] theorem State.setDst_err : (s.setDst v).err = s.err := rfl
@[simp] theorem State.setDst_errCode : (s.setDst v).errCode = s.errCode := rfl
@[simp] theorem State.setDst_packedEn : (s.setDst v).packedEn = s.packedEn := rfl
@[simp] theorem State.setDst_opa : (s.setDst v).opa = s.opa := rfl
@[simp] theorem State.setDst_res : (s.setDst v).res = s.res := rfl
@[simp] theorem State.setDst_src : (s.setDst v).src = s.src := rfl
@[simp] theorem State.setDst_dst : (s.setDst v).dst = v := rfl
@[simp] theorem State.setDst_len : (s.setDst v).len = s.len := rfl
@[simp] theorem State.setDst_seqJ : (s.setDst v).seqJ = s.seqJ := rfl
@[simp] theorem State.setDst_seqMode : (s.setDst v).seqMode = s.seqMode := rfl
@[simp] theorem State.setDst_lg : (s.setDst v).lg = s.lg := rfl
@[simp] theorem State.setDst_mem : (s.setDst v).mem = s.mem := rfl
@[simp] theorem State.setDst_faults : (s.setDst v).faults = s.faults := rfl
@[simp] theorem State.setDst_params : (s.setDst v).params = s.params := rfl
@[simp] theorem State.setDst_draws : (s.setDst v).draws = s.draws := rfl
@[simp] theorem State.setDst_readData : (s.setDst v).readData = s.readData := rfl
@[simp] theorem State.setDst_host : (s.setDst v).host = s.host := rfl
@[simp] theorem State.setDst_turns : (s.setDst v).turns = s.turns := rfl

end

section
variable (s : State) (v : Word)

@[simp] theorem State.setLen_busy : (s.setLen v).busy = s.busy := rfl
@[simp] theorem State.setLen_err : (s.setLen v).err = s.err := rfl
@[simp] theorem State.setLen_errCode : (s.setLen v).errCode = s.errCode := rfl
@[simp] theorem State.setLen_packedEn : (s.setLen v).packedEn = s.packedEn := rfl
@[simp] theorem State.setLen_opa : (s.setLen v).opa = s.opa := rfl
@[simp] theorem State.setLen_res : (s.setLen v).res = s.res := rfl
@[simp] theorem State.setLen_src : (s.setLen v).src = s.src := rfl
@[simp] theorem State.setLen_dst : (s.setLen v).dst = s.dst := rfl
@[simp] theorem State.setLen_len : (s.setLen v).len = v := rfl
@[simp] theorem State.setLen_seqJ : (s.setLen v).seqJ = s.seqJ := rfl
@[simp] theorem State.setLen_seqMode : (s.setLen v).seqMode = s.seqMode := rfl
@[simp] theorem State.setLen_lg : (s.setLen v).lg = s.lg := rfl
@[simp] theorem State.setLen_mem : (s.setLen v).mem = s.mem := rfl
@[simp] theorem State.setLen_faults : (s.setLen v).faults = s.faults := rfl
@[simp] theorem State.setLen_params : (s.setLen v).params = s.params := rfl
@[simp] theorem State.setLen_draws : (s.setLen v).draws = s.draws := rfl
@[simp] theorem State.setLen_readData : (s.setLen v).readData = s.readData := rfl
@[simp] theorem State.setLen_host : (s.setLen v).host = s.host := rfl
@[simp] theorem State.setLen_turns : (s.setLen v).turns = s.turns := rfl

end

section
variable (s : State) (v : Word)

@[simp] theorem State.setSeqJ_busy : (s.setSeqJ v).busy = s.busy := rfl
@[simp] theorem State.setSeqJ_err : (s.setSeqJ v).err = s.err := rfl
@[simp] theorem State.setSeqJ_errCode : (s.setSeqJ v).errCode = s.errCode := rfl
@[simp] theorem State.setSeqJ_packedEn : (s.setSeqJ v).packedEn = s.packedEn := rfl
@[simp] theorem State.setSeqJ_opa : (s.setSeqJ v).opa = s.opa := rfl
@[simp] theorem State.setSeqJ_res : (s.setSeqJ v).res = s.res := rfl
@[simp] theorem State.setSeqJ_src : (s.setSeqJ v).src = s.src := rfl
@[simp] theorem State.setSeqJ_dst : (s.setSeqJ v).dst = s.dst := rfl
@[simp] theorem State.setSeqJ_len : (s.setSeqJ v).len = s.len := rfl
@[simp] theorem State.setSeqJ_seqJ : (s.setSeqJ v).seqJ = v := rfl
@[simp] theorem State.setSeqJ_seqMode : (s.setSeqJ v).seqMode = s.seqMode := rfl
@[simp] theorem State.setSeqJ_lg : (s.setSeqJ v).lg = s.lg := rfl
@[simp] theorem State.setSeqJ_mem : (s.setSeqJ v).mem = s.mem := rfl
@[simp] theorem State.setSeqJ_faults : (s.setSeqJ v).faults = s.faults := rfl
@[simp] theorem State.setSeqJ_params : (s.setSeqJ v).params = s.params := rfl
@[simp] theorem State.setSeqJ_draws : (s.setSeqJ v).draws = s.draws := rfl
@[simp] theorem State.setSeqJ_readData : (s.setSeqJ v).readData = s.readData := rfl
@[simp] theorem State.setSeqJ_host : (s.setSeqJ v).host = s.host := rfl
@[simp] theorem State.setSeqJ_turns : (s.setSeqJ v).turns = s.turns := rfl

end

section
variable (s : State) (v : Bool)

@[simp] theorem State.setSeqMode_busy : (s.setSeqMode v).busy = s.busy := rfl
@[simp] theorem State.setSeqMode_err : (s.setSeqMode v).err = s.err := rfl
@[simp] theorem State.setSeqMode_errCode : (s.setSeqMode v).errCode = s.errCode := rfl
@[simp] theorem State.setSeqMode_packedEn : (s.setSeqMode v).packedEn = s.packedEn := rfl
@[simp] theorem State.setSeqMode_opa : (s.setSeqMode v).opa = s.opa := rfl
@[simp] theorem State.setSeqMode_res : (s.setSeqMode v).res = s.res := rfl
@[simp] theorem State.setSeqMode_src : (s.setSeqMode v).src = s.src := rfl
@[simp] theorem State.setSeqMode_dst : (s.setSeqMode v).dst = s.dst := rfl
@[simp] theorem State.setSeqMode_len : (s.setSeqMode v).len = s.len := rfl
@[simp] theorem State.setSeqMode_seqJ : (s.setSeqMode v).seqJ = s.seqJ := rfl
@[simp] theorem State.setSeqMode_seqMode : (s.setSeqMode v).seqMode = v := rfl
@[simp] theorem State.setSeqMode_lg : (s.setSeqMode v).lg = s.lg := rfl
@[simp] theorem State.setSeqMode_mem : (s.setSeqMode v).mem = s.mem := rfl
@[simp] theorem State.setSeqMode_faults : (s.setSeqMode v).faults = s.faults := rfl
@[simp] theorem State.setSeqMode_params : (s.setSeqMode v).params = s.params := rfl
@[simp] theorem State.setSeqMode_draws : (s.setSeqMode v).draws = s.draws := rfl
@[simp] theorem State.setSeqMode_readData : (s.setSeqMode v).readData = s.readData := rfl
@[simp] theorem State.setSeqMode_host : (s.setSeqMode v).host = s.host := rfl
@[simp] theorem State.setSeqMode_turns : (s.setSeqMode v).turns = s.turns := rfl

end

section
variable (s : State) (v : Word)

@[simp] theorem State.setLg_busy : (s.setLg v).busy = s.busy := rfl
@[simp] theorem State.setLg_err : (s.setLg v).err = s.err := rfl
@[simp] theorem State.setLg_errCode : (s.setLg v).errCode = s.errCode := rfl
@[simp] theorem State.setLg_packedEn : (s.setLg v).packedEn = s.packedEn := rfl
@[simp] theorem State.setLg_opa : (s.setLg v).opa = s.opa := rfl
@[simp] theorem State.setLg_res : (s.setLg v).res = s.res := rfl
@[simp] theorem State.setLg_src : (s.setLg v).src = s.src := rfl
@[simp] theorem State.setLg_dst : (s.setLg v).dst = s.dst := rfl
@[simp] theorem State.setLg_len : (s.setLg v).len = s.len := rfl
@[simp] theorem State.setLg_seqJ : (s.setLg v).seqJ = s.seqJ := rfl
@[simp] theorem State.setLg_seqMode : (s.setLg v).seqMode = s.seqMode := rfl
@[simp] theorem State.setLg_lg : (s.setLg v).lg = v := rfl
@[simp] theorem State.setLg_mem : (s.setLg v).mem = s.mem := rfl
@[simp] theorem State.setLg_faults : (s.setLg v).faults = s.faults := rfl
@[simp] theorem State.setLg_params : (s.setLg v).params = s.params := rfl
@[simp] theorem State.setLg_draws : (s.setLg v).draws = s.draws := rfl
@[simp] theorem State.setLg_readData : (s.setLg v).readData = s.readData := rfl
@[simp] theorem State.setLg_host : (s.setLg v).host = s.host := rfl
@[simp] theorem State.setLg_turns : (s.setLg v).turns = s.turns := rfl

end

section
variable (s : State) (v : Memory)

@[simp] theorem State.setMem_busy : (s.setMem v).busy = s.busy := rfl
@[simp] theorem State.setMem_err : (s.setMem v).err = s.err := rfl
@[simp] theorem State.setMem_errCode : (s.setMem v).errCode = s.errCode := rfl
@[simp] theorem State.setMem_packedEn : (s.setMem v).packedEn = s.packedEn := rfl
@[simp] theorem State.setMem_opa : (s.setMem v).opa = s.opa := rfl
@[simp] theorem State.setMem_res : (s.setMem v).res = s.res := rfl
@[simp] theorem State.setMem_src : (s.setMem v).src = s.src := rfl
@[simp] theorem State.setMem_dst : (s.setMem v).dst = s.dst := rfl
@[simp] theorem State.setMem_len : (s.setMem v).len = s.len := rfl
@[simp] theorem State.setMem_seqJ : (s.setMem v).seqJ = s.seqJ := rfl
@[simp] theorem State.setMem_seqMode : (s.setMem v).seqMode = s.seqMode := rfl
@[simp] theorem State.setMem_lg : (s.setMem v).lg = s.lg := rfl
@[simp] theorem State.setMem_mem : (s.setMem v).mem = v := rfl
@[simp] theorem State.setMem_faults : (s.setMem v).faults = s.faults := rfl
@[simp] theorem State.setMem_params : (s.setMem v).params = s.params := rfl
@[simp] theorem State.setMem_draws : (s.setMem v).draws = s.draws := rfl
@[simp] theorem State.setMem_readData : (s.setMem v).readData = s.readData := rfl
@[simp] theorem State.setMem_host : (s.setMem v).host = s.host := rfl
@[simp] theorem State.setMem_turns : (s.setMem v).turns = s.turns := rfl

end

section
variable (s : State) (v : FaultSet)

@[simp] theorem State.setFaults_busy : (s.setFaults v).busy = s.busy := rfl
@[simp] theorem State.setFaults_err : (s.setFaults v).err = s.err := rfl
@[simp] theorem State.setFaults_errCode : (s.setFaults v).errCode = s.errCode := rfl
@[simp] theorem State.setFaults_packedEn : (s.setFaults v).packedEn = s.packedEn := rfl
@[simp] theorem State.setFaults_opa : (s.setFaults v).opa = s.opa := rfl
@[simp] theorem State.setFaults_res : (s.setFaults v).res = s.res := rfl
@[simp] theorem State.setFaults_src : (s.setFaults v).src = s.src := rfl
@[simp] theorem State.setFaults_dst : (s.setFaults v).dst = s.dst := rfl
@[simp] theorem State.setFaults_len : (s.setFaults v).len = s.len := rfl
@[simp] theorem State.setFaults_seqJ : (s.setFaults v).seqJ = s.seqJ := rfl
@[simp] theorem State.setFaults_seqMode : (s.setFaults v).seqMode = s.seqMode := rfl
@[simp] theorem State.setFaults_lg : (s.setFaults v).lg = s.lg := rfl
@[simp] theorem State.setFaults_mem : (s.setFaults v).mem = s.mem := rfl
@[simp] theorem State.setFaults_faults : (s.setFaults v).faults = v := rfl
@[simp] theorem State.setFaults_params : (s.setFaults v).params = s.params := rfl
@[simp] theorem State.setFaults_draws : (s.setFaults v).draws = s.draws := rfl
@[simp] theorem State.setFaults_readData : (s.setFaults v).readData = s.readData := rfl
@[simp] theorem State.setFaults_host : (s.setFaults v).host = s.host := rfl
@[simp] theorem State.setFaults_turns : (s.setFaults v).turns = s.turns := rfl

end

section
variable (s : State) (v : Nat)

@[simp] theorem State.setDraws_busy : (s.setDraws v).busy = s.busy := rfl
@[simp] theorem State.setDraws_err : (s.setDraws v).err = s.err := rfl
@[simp] theorem State.setDraws_errCode : (s.setDraws v).errCode = s.errCode := rfl
@[simp] theorem State.setDraws_packedEn : (s.setDraws v).packedEn = s.packedEn := rfl
@[simp] theorem State.setDraws_opa : (s.setDraws v).opa = s.opa := rfl
@[simp] theorem State.setDraws_res : (s.setDraws v).res = s.res := rfl
@[simp] theorem State.setDraws_src : (s.setDraws v).src = s.src := rfl
@[simp] theorem State.setDraws_dst : (s.setDraws v).dst = s.dst := rfl
@[simp] theorem State.setDraws_len : (s.setDraws v).len = s.len := rfl
@[simp] theorem State.setDraws_seqJ : (s.setDraws v).seqJ = s.seqJ := rfl
@[simp] theorem State.setDraws_seqMode : (s.setDraws v).seqMode = s.seqMode := rfl
@[simp] theorem State.setDraws_lg : (s.setDraws v).lg = s.lg := rfl
@[simp] theorem State.setDraws_mem : (s.setDraws v).mem = s.mem := rfl
@[simp] theorem State.setDraws_faults : (s.setDraws v).faults = s.faults := rfl
@[simp] theorem State.setDraws_params : (s.setDraws v).params = s.params := rfl
@[simp] theorem State.setDraws_draws : (s.setDraws v).draws = v := rfl
@[simp] theorem State.setDraws_readData : (s.setDraws v).readData = s.readData := rfl
@[simp] theorem State.setDraws_host : (s.setDraws v).host = s.host := rfl
@[simp] theorem State.setDraws_turns : (s.setDraws v).turns = s.turns := rfl

end

section
variable (s : State) (v : Option Word)

@[simp] theorem State.setReadData_busy : (s.setReadData v).busy = s.busy := rfl
@[simp] theorem State.setReadData_err : (s.setReadData v).err = s.err := rfl
@[simp] theorem State.setReadData_errCode : (s.setReadData v).errCode = s.errCode := rfl
@[simp] theorem State.setReadData_packedEn : (s.setReadData v).packedEn = s.packedEn := rfl
@[simp] theorem State.setReadData_opa : (s.setReadData v).opa = s.opa := rfl
@[simp] theorem State.setReadData_res : (s.setReadData v).res = s.res := rfl
@[simp] theorem State.setReadData_src : (s.setReadData v).src = s.src := rfl
@[simp] theorem State.setReadData_dst : (s.setReadData v).dst = s.dst := rfl
@[simp] theorem State.setReadData_len : (s.setReadData v).len = s.len := rfl
@[simp] theorem State.setReadData_seqJ : (s.setReadData v).seqJ = s.seqJ := rfl
@[simp] theorem State.setReadData_seqMode : (s.setReadData v).seqMode = s.seqMode := rfl
@[simp] theorem State.setReadData_lg : (s.setReadData v).lg = s.lg := rfl
@[simp] theorem State.setReadData_mem : (s.setReadData v).mem = s.mem := rfl
@[simp] theorem State.setReadData_faults : (s.setReadData v).faults = s.faults := rfl
@[simp] theorem State.setReadData_params : (s.setReadData v).params = s.params := rfl
@[simp] theorem State.setReadData_draws : (s.setReadData v).draws = s.draws := rfl
@[simp] theorem State.setReadData_readData : (s.setReadData v).readData = v := rfl
@[simp] theorem State.setReadData_host : (s.setReadData v).host = s.host := rfl
@[simp] theorem State.setReadData_turns : (s.setReadData v).turns = s.turns := rfl

end

section
variable (s : State) (v : List HostAction)

@[simp] theorem State.setHost_busy : (s.setHost v).busy = s.busy := rfl
@[simp] theorem State.setHost_err : (s.setHost v).err = s.err := rfl
@[simp] theorem State.setHost_errCode : (s.setHost v).errCode = s.errCode := rfl
@[simp] theorem State.setHost_packedEn : (s.setHost v).packedEn = s.packedEn := rfl
@[simp] theorem State.setHost_opa : (s.setHost v).opa = s.opa := rfl
@[simp] theorem State.setHost_res : (s.setHost v).res = s.res := rfl
@[simp] theorem State.setHost_src : (s.setHost v).src = s.src := rfl
@[simp] theorem State.setHost_dst : (s.setHost v).dst = s.dst := rfl
@[simp] theorem State.setHost_len : (s.setHost v).len = s.len := rfl
@[simp] theorem State.setHost_seqJ : (s.setHost v).seqJ = s.seqJ := rfl
@[simp] theorem State.setHost_seqMode : (s.setHost v).seqMode = s.seqMode := rfl
@[simp] theorem State.setHost_lg : (s.setHost v).lg = s.lg := rfl
@[simp] theorem State.setHost_mem : (s.setHost v).mem = s.mem := rfl
@[simp] theorem State.setHost_faults : (s.setHost v).faults = s.faults := rfl
@[simp] theorem State.setHost_params : (s.setHost v).params = s.params := rfl
@[simp] theorem State.setHost_draws : (s.setHost v).draws = s.draws := rfl
@[simp] theorem State.setHost_readData : (s.setHost v).readData = s.readData := rfl
@[simp] theorem State.setHost_host : (s.setHost v).host = v := rfl
@[simp] theorem State.setHost_turns : (s.setHost v).turns = s.turns := rfl

end

section
variable (s : State) (v : List Turn)

@[simp] theorem State.setTurns_busy : (s.setTurns v).busy = s.busy := rfl
@[simp] theorem State.setTurns_err : (s.setTurns v).err = s.err := rfl
@[simp] theorem State.setTurns_errCode : (s.setTurns v).errCode = s.errCode := rfl
@[simp] theorem State.setTurns_packedEn : (s.setTurns v).packedEn = s.packedEn := rfl
@[simp] theorem State.setTurns_opa : (s.setTurns v).opa = s.opa := rfl
@[simp] theorem State.setTurns_res : (s.setTurns v).res = s.res := rfl
@[simp] theorem State.setTurns_src : (s.setTurns v).src = s.src := rfl
@[simp] theorem State.setTurns_dst : (s.setTurns v).dst = s.dst := rfl
@[simp] theorem State.setTurns_len : (s.setTurns v).len = s.len := rfl
@[simp] theorem State.setTurns_seqJ : (s.setTurns v).seqJ = s.seqJ := rfl
@[simp] theorem State.setTurns_seqMode : (s.setTurns v).seqMode = s.seqMode := rfl
@[simp] theorem State.setTurns_lg : (s.setTurns v).lg = s.lg := rfl
@[simp] theorem State.setTurns_mem : (s.setTurns v).mem = s.mem := rfl
@[simp] theorem State.setTurns_faults : (s.setTurns v).faults = s.faults := rfl
@[simp] theorem State.setTurns_params : (s.setTurns v).params = s.params := rfl
@[simp] theorem State.setTurns_draws : (s.setTurns v).draws = s.draws := rfl
@[simp] theorem State.setTurns_readData : (s.setTurns v).readData = s.readData := rfl
@[simp] theorem State.setTurns_host : (s.setTurns v).host = s.host := rfl
@[simp] theorem State.setTurns_turns : (s.setTurns v).turns = v := rfl

end

end Sys2Proof.Machine
end

