-- ==== Sys2Proof/Laws/Memory.lean ====
section
/-!
SUPPORT. The data memory: a read after a write, and every memory operation keeps the canonical form.
-/

namespace Sys2Proof.Machine

@[simp] theorem memFind_memInsert_same (m : Memory) (a : Nat) (b : Byte) :
    memFind (memInsert m a b) a = some b := by
  induction m with
  | nil => simp [memInsert, memFind]
  | cons c rest ih =>
    obtain ⟨k, v⟩ := c
    by_cases h : a < k
    · simp [memInsert, memFind, h]
    · by_cases h' : a = k
      · simp [memInsert, memFind, h']
      · simp [memInsert, memFind, h, h', ih]

theorem memFind_memInsert_other (m : Memory) (a a' : Nat) (b : Byte) (h : a' ≠ a) :
    memFind (memInsert m a b) a' = memFind m a' := by
  induction m with
  | nil => simp [memInsert, memFind, h]
  | cons c rest ih =>
    obtain ⟨k, v⟩ := c
    by_cases h1 : a < k
    · simp [memInsert, memFind, h1, h]
    · by_cases h2 : a = k
      · subst h2
        simp [memInsert, memFind, h]
      · simp [memInsert, memFind, h1, h2, ih]

@[simp] theorem memByte_memSet_same (m : Memory) (a : Addr) (b : Byte) : memByte (memSet m a b) a = b := by
  simp [memByte, memSet]

theorem memByte_memSet_other (m : Memory) (a a' : Addr) (b : Byte) (h : a' ≠ a) :
    memByte (memSet m a b) a' = memByte m a' := by
  have h' : a'.toNat ≠ a.toNat := fun e => h (BitVec.eq_of_toNat_eq e)
  simp [memByte, memSet, memFind_memInsert_other _ _ _ _ h']

/-- A byte of the memory after one byte was written. -/
theorem memByte_memSet (m : Memory) (a a' : Addr) (b : Byte) :
    memByte (memSet m a b) a' = if a' = a then b else memByte m a' := by
  by_cases h : a' = a
  · subst h
    simp
  · simp [h, memByte_memSet_other]

theorem memRising_mono (m : Memory) (lo lo' : Nat) (h : lo' ≤ lo) (hm : memRising lo m = true) :
    memRising lo' m = true := by
  cases m with
  | nil => rfl
  | cons c rest =>
    obtain ⟨k, v⟩ := c
    simp [memRising] at hm ⊢
    exact ⟨by omega, hm.2⟩

theorem memRising_memInsert (m : Memory) (lo a : Nat) (b : Byte) (ha : lo ≤ a) (hm : memRising lo m = true) :
    memRising lo (memInsert m a b) = true := by
  induction m generalizing lo with
  | nil => simp [memInsert, memRising, ha]
  | cons c rest ih =>
    obtain ⟨k, v⟩ := c
    simp [memRising] at hm
    by_cases h1 : a < k
    · simp [memInsert, memRising, h1, ha, hm.2]
    · by_cases h2 : a = k
      · subst h2
        simp [memInsert, memRising, ha, hm.2]
      · simp [memInsert, memRising, h1, h2, hm.1]
        exact ih _ (by omega) hm.2

theorem memInsert_bounded (m : Memory) (a n : Nat) (b : Byte) (ha : a < n)
    (hm : m.all (fun c => decide (c.1 < n)) = true) :
    (memInsert m a b).all (fun c => decide (c.1 < n)) = true := by
  induction m with
  | nil => simp [memInsert, ha]
  | cons c rest ih =>
    obtain ⟨k, v⟩ := c
    rw [List.all_cons, Bool.and_eq_true] at hm
    by_cases h1 : a < k
    · simp only [memInsert, h1, if_true, List.all_cons, hm.1, hm.2, decide_eq_true ha, Bool.and_self]
    · by_cases h2 : a = k
      · rw [memInsert, if_neg h1, if_pos h2, List.all_cons, hm.2, decide_eq_true ha]
        rfl
      · rw [memInsert, if_neg h1, if_neg h2, List.all_cons, hm.1, ih hm.2]
        rfl

/-- Writing a byte keeps the memory's canonical form. -/
theorem Memory.wf_memSet (m : Memory) (a : Addr) (b : Byte) (hm : Memory.wf m = true) :
    Memory.wf (memSet m a b) = true := by
  rw [Memory.wf, Bool.and_eq_true] at hm ⊢
  exact ⟨memRising_memInsert _ _ _ _ (Nat.zero_le _) hm.1, memInsert_bounded _ _ _ _ a.isLt hm.2⟩

theorem Memory.wf_memWrite1 (s : State) (a : Addr) (b : Byte) (hm : Memory.wf s.mem = true) :
    Memory.wf (memWrite1 a b s).mem = true := Memory.wf_memSet _ _ _ hm

theorem Memory.wf_memWrite4 (s : State) (a : Addr) (v : Word) (hm : Memory.wf s.mem = true) :
    Memory.wf (memWrite4 a v s).mem = true :=
  Memory.wf_memSet _ _ _ (Memory.wf_memSet _ _ _ (Memory.wf_memSet _ _ _ (Memory.wf_memSet _ _ _ hm)))

theorem Memory.wf_resetWith (p : Params) : Memory.wf (State.resetWith p).mem = true := rfl

/-- One-byte write: what the memory holds afterwards. -/
theorem memByte_memWrite1 (s : State) (a a' : Addr) (b : Byte) :
    memByte (memWrite1 a b s).mem a' = if a' = a then b else memByte s.mem a' := memByte_memSet _ _ _ _

/-- Four-byte write: what the memory holds afterwards (00_scope.md R14). -/
theorem memByte_memWrite4 (s : State) (a a' : Addr) (v : Word) :
    memByte (memWrite4 a v s).mem a' =
      if a' = a + 3 then lane v 3 else if a' = a + 2 then lane v 2 else if a' = a + 1 then lane v 1
      else if a' = a then lane v 0 else memByte s.mem a' := by
  simp [memWrite4, memByte_memSet, lane]

/-- The byte lanes of a word put together from bytes (20_memory.md R53). -/
theorem lane_wordOfBytes (b0 b1 b2 b3 : Byte) :
    lane (wordOfBytes b0 b1 b2 b3) 0 = b0 ∧ lane (wordOfBytes b0 b1 b2 b3) 1 = b1 ∧
      lane (wordOfBytes b0 b1 b2 b3) 2 = b2 ∧ lane (wordOfBytes b0 b1 b2 b3) 3 = b3 := by
  refine ⟨?_, ?_, ?_, ?_⟩ <;>
  · apply BitVec.eq_of_getLsbD_eq
    intro i hi
    simp only [lane, wordOfBytes, BitVec.getLsbD_extractLsb', BitVec.getLsbD_append]
    have e2 : 16 + i - 8 - 8 = i := by omega
    have e3 : 24 + i - 8 - 8 - 8 = i := by omega
    (repeat' split) <;> first | omega | simp_all [BitVec.getLsbD_eq_getElem]

/-- A word is its four lanes packed (00_scope.md R12). -/
theorem lane_pack (l0 l1 l2 l3 : Byte) :
    lane (pack l0 l1 l2 l3) 0 = l0 ∧ lane (pack l0 l1 l2 l3) 1 = l1 ∧
      lane (pack l0 l1 l2 l3) 2 = l2 ∧ lane (pack l0 l1 l2 l3) 3 = l3 := lane_wordOfBytes l0 l1 l2 l3

end Sys2Proof.Machine
end

