-- ==== Sys2Proof/Laws/Ops.lean ====
section
/-!
SUPPORT. One lemma for each shared operation that says everything it does; later proofs cite these and do not unfold it.
-/

namespace Sys2Proof.Machine

theorem raiseError_eq (c : ErrorCode) (s : State) :
    raiseError c s = { s with err := true, errCode := if s.err then s.errCode else errorCodeBits c } := rfl

theorem clearError_eq (s : State) : clearError s = { s with err := false, errCode := 0 } := rfl

theorem markFaults_eq (f : FaultSet) (s : State) : markFaults f s = { s with faults := s.faults.union f } := rfl

@[simp] theorem FaultSet.union_empty (f : FaultSet) : f.union FaultSet.empty = f := by
  cases f
  simp [FaultSet.union, FaultSet.empty]

/-- A union of fault sets is empty only if both are. -/
theorem FaultSet.union_eq_empty (f g : FaultSet) :
    f.union g = FaultSet.empty ↔ f = FaultSet.empty ∧ g = FaultSet.empty := by
  cases f
  cases g
  simp [FaultSet.union, FaultSet.empty]
  tauto

theorem refuseWhileBusy_busy (run : State → State) (s : State) (h : s.busy = true) :
    refuseWhileBusy run s = raiseError .busy s := by simp [refuseWhileBusy, h]

theorem refuseWhileBusy_idle (run : State → State) (s : State) (h : s.busy = false) :
    refuseWhileBusy run s = run s := by simp [refuseWhileBusy, h]

theorem requirePacked_present (run : State → State) (s : State) (h : s.params.hasPacked = true) :
    requirePacked run s = run s := by simp [requirePacked, h]

theorem requirePacked_absent (run : State → State) (s : State) (h : s.params.hasPacked = false) :
    requirePacked run s = raiseError .unimplCmd s := by simp [requirePacked, h]

theorem dropLaneGroup_eq (s : State) :
    dropLaneGroup s = { s with lg := Config.lgDraw s.draws, draws := s.draws + 1 } := rfl

theorem resetEvent_eq (s : State) :
    resetEvent s = { s with
      busy := false, err := false, errCode := 0, packedEn := false, opa := 0, res := 0, src := 0, dst := 0,
      len := 0, seqJ := 0, seqMode := false, lg := Config.lgDraw s.draws, draws := s.draws + 1 } := rfl

/-- A reset event is the reset state, but for what a reset does not touch and for LG. -/
theorem resetEvent_eq_resetWith (s : State) :
    resetEvent s = { State.resetWith s.params with
      lg := Config.lgDraw s.draws, draws := s.draws + 1, mem := s.mem, faults := s.faults,
      readData := s.readData, host := s.host, turns := s.turns } := rfl

/-! ## The sequencer -/

theorem startNegv_empty (s : State) (h : s.len = 0) : startNegv s = s := by simp [startNegv, h]

theorem startNegv_nonempty (s : State) (h : s.len ≠ 0) :
    startNegv s = { s with
      faults := s.faults.union (rangeFaults s), seqJ := 0, seqMode := s.packedEn, busy := true } := by
  rw [startNegv, if_neg h]
  rfl

/-- When the candidate step is a group step (42_block_kernel.md R138). -/
theorem selectsGroup_iff (s : State) :
    selectsGroup s = true ↔ s.seqMode = true ∧ s.seqJ.toNat < 4 * (s.len.toNat / 4) := by
  rw [selectsGroup, Bool.and_eq_true, decide_eq_true_eq]
  rfl

/-- When it is a scalar step. -/
theorem selectsGroup_eq_false_iff (s : State) :
    selectsGroup s = false ↔ s.seqMode = false ∨ 4 * (s.len.toNat / 4) ≤ s.seqJ.toNat := by
  rw [← Bool.not_eq_true, selectsGroup_iff, not_and_or, Bool.not_eq_true, Nat.not_lt]

/-- What a group step leaves: everything but the memory, LG, SEQ_J and BUSY. -/
theorem groupStep_eq (s : State) :
    groupStep s = { s with
      mem := (memWrite4 (dstAddr s 0) (pnegs4 (memRead4 s (srcAddr s 0))) s).mem
      lg := Config.lgDraw s.draws, draws := s.draws + 1
      seqJ := s.seqJ + 4
      busy := s.busy && s.seqJ + 4 != s.len } := by
  cases s
  simp only [groupStep, advance, dropLaneGroup, memWrite4, dstAddr, memRead4, State.setLg, State.setMem,
    State.setDraws, State.setSeqJ, State.setBusy, packedUnit]

/-- What a scalar step leaves: everything but the memory, SEQ_J and BUSY. -/
theorem scalarStep_eq (s : State) :
    scalarStep s = { s with
      mem := memSet s.mem (dstAddr s 0) (satneg8 (memByte s.mem (srcAddr s 0)))
      seqJ := s.seqJ + 1
      busy := s.busy && s.seqJ + 1 != s.len } := by
  cases s
  simp only [scalarStep, advance, memWrite1, memRead1, scalarUnit, State.setMem, State.setSeqJ, State.setBusy]

/-- Everything an enabled sequencer step can be. -/
theorem sequencerStep_cases (s t : State) (h : sequencerStep s = some t) :
    s.busy = true ∧ stepEnabled s = true ∧
      ((selectsGroup s = true ∧ t = groupStep s) ∨ (selectsGroup s = false ∧ t = scalarStep s)) := by
  simp only [sequencerStep, Option.ite_none_right_eq_some, Option.some.injEq] at h
  obtain ⟨he, rfl⟩ := h
  refine ⟨?_, he, ?_⟩
  · simp only [stepEnabled, Bool.and_eq_true] at he
    exact he.1
  · cases hg : selectsGroup s <;> simp

theorem sequencerStep_idle (s : State) (h : s.busy = false) : sequencerStep s = none := by
  simp [sequencerStep, stepEnabled, h]

theorem sequencerStep_stuck (s : State) (h : stepEnabled s = false) : sequencerStep s = none := by
  simp [sequencerStep, h]

theorem blockTurn_cases (s : State) :
    (stepEnabled s = false ∧ blockTurn s = s) ∨ sequencerStep s = some (blockTurn s) := by
  simp only [blockTurn]
  cases h : sequencerStep s with
  | none =>
    left
    refine ⟨?_, rfl⟩
    by_contra hc
    simp [sequencerStep, hc] at h
  | some t => right; rfl

/-- The one case in which a start marks no fault: no range wraps, and the buffers are one or disjoint. -/
theorem rangeFaults_eq_empty (s : State) : rangeFaults s = FaultSet.empty ↔ s.buffersLegal := by
  simp only [rangeFaults, FaultSet.empty, FaultSet.mk.injEq, rangeWraps, rangesOverlap, State.buffersLegal,
    ← BitVec.toNat_inj]
  simp
  omega

/-- The register window is the 256 addresses from `BLOCK_BASE` (20_memory.md R50). -/
theorem inWindow_iff (p : Params) (a : Addr) :
    inWindow p a = true ↔ p.blockPage.toNat * 256 ≤ a.toNat ∧ a.toNat < p.blockPage.toNat * 256 + 256 := by
  have := a.isLt
  simp [inWindow, ← BitVec.toNat_inj, BitVec.extractLsb'_toNat, Nat.shiftRight_eq_div_pow]
  omega

/-- The bytes of a buffer are `base + j` modulo `2^32`, for `j` below its length. -/
theorem inBuffer_iff (base n a : Word) :
    inBuffer base n a = true ↔ ∃ j, j < n.toNat ∧ a = bufferAddr base j := by
  simp only [inBuffer, decide_eq_true_eq]
  refine ⟨fun h => ⟨(a - base).toNat, h, ?_⟩, ?_⟩
  · simp only [bufferAddr, BitVec.ofNat_toNat, BitVec.setWidth_eq]
    bv_omega
  · rintro ⟨j, hj, rfl⟩
    have hn := n.isLt
    have : (bufferAddr base j - base).toNat = j := by
      rw [bufferAddr, add_sub_cancel_left, BitVec.toNat_ofNat, Nat.mod_eq_of_lt (by omega)]
    omega

/-- The bytes of a buffer that does not wrap are an interval (20_memory.md R65). -/
theorem inBuffer_interval (base n a : Word) (h : base.toNat + n.toNat ≤ 2 ^ 32) :
    inBuffer base n a = decide (base.toNat ≤ a.toNat ∧ a.toNat < base.toNat + n.toNat) := by
  have := a.isLt
  have := base.isLt
  simp only [inBuffer, decide_eq_decide, BitVec.toNat_sub]
  omega

end Sys2Proof.Machine
end

