-- ==== Sys2Proof/Laws/Frames.lean ====
section
/-!
SUPPORT. The frame of each shared operation: the fields it leaves unchanged, one lemma for each.
-/

namespace Sys2Proof.Machine

@[simp] theorem raiseError_busy (c : ErrorCode) (s : State) : (raiseError c s).busy = s.busy := rfl
@[simp] theorem raiseError_packedEn (c : ErrorCode) (s : State) : (raiseError c s).packedEn = s.packedEn := rfl
@[simp] theorem raiseError_opa (c : ErrorCode) (s : State) : (raiseError c s).opa = s.opa := rfl
@[simp] theorem raiseError_res (c : ErrorCode) (s : State) : (raiseError c s).res = s.res := rfl
@[simp] theorem raiseError_src (c : ErrorCode) (s : State) : (raiseError c s).src = s.src := rfl
@[simp] theorem raiseError_dst (c : ErrorCode) (s : State) : (raiseError c s).dst = s.dst := rfl
@[simp] theorem raiseError_len (c : ErrorCode) (s : State) : (raiseError c s).len = s.len := rfl
@[simp] theorem raiseError_seqJ (c : ErrorCode) (s : State) : (raiseError c s).seqJ = s.seqJ := rfl
@[simp] theorem raiseError_seqMode (c : ErrorCode) (s : State) : (raiseError c s).seqMode = s.seqMode := rfl
@[simp] theorem raiseError_lg (c : ErrorCode) (s : State) : (raiseError c s).lg = s.lg := rfl
@[simp] theorem raiseError_mem (c : ErrorCode) (s : State) : (raiseError c s).mem = s.mem := rfl
@[simp] theorem raiseError_faults (c : ErrorCode) (s : State) : (raiseError c s).faults = s.faults := rfl
@[simp] theorem raiseError_params (c : ErrorCode) (s : State) : (raiseError c s).params = s.params := rfl
@[simp] theorem raiseError_draws (c : ErrorCode) (s : State) : (raiseError c s).draws = s.draws := rfl
@[simp] theorem raiseError_readData (c : ErrorCode) (s : State) : (raiseError c s).readData = s.readData := rfl
@[simp] theorem raiseError_host (c : ErrorCode) (s : State) : (raiseError c s).host = s.host := rfl
@[simp] theorem raiseError_turns (c : ErrorCode) (s : State) : (raiseError c s).turns = s.turns := rfl

@[simp] theorem clearError_busy (s : State) : (clearError s).busy = s.busy := rfl
@[simp] theorem clearError_packedEn (s : State) : (clearError s).packedEn = s.packedEn := rfl
@[simp] theorem clearError_opa (s : State) : (clearError s).opa = s.opa := rfl
@[simp] theorem clearError_res (s : State) : (clearError s).res = s.res := rfl
@[simp] theorem clearError_src (s : State) : (clearError s).src = s.src := rfl
@[simp] theorem clearError_dst (s : State) : (clearError s).dst = s.dst := rfl
@[simp] theorem clearError_len (s : State) : (clearError s).len = s.len := rfl
@[simp] theorem clearError_seqJ (s : State) : (clearError s).seqJ = s.seqJ := rfl
@[simp] theorem clearError_seqMode (s : State) : (clearError s).seqMode = s.seqMode := rfl
@[simp] theorem clearError_lg (s : State) : (clearError s).lg = s.lg := rfl
@[simp] theorem clearError_mem (s : State) : (clearError s).mem = s.mem := rfl
@[simp] theorem clearError_faults (s : State) : (clearError s).faults = s.faults := rfl
@[simp] theorem clearError_params (s : State) : (clearError s).params = s.params := rfl
@[simp] theorem clearError_draws (s : State) : (clearError s).draws = s.draws := rfl
@[simp] theorem clearError_readData (s : State) : (clearError s).readData = s.readData := rfl
@[simp] theorem clearError_host (s : State) : (clearError s).host = s.host := rfl
@[simp] theorem clearError_turns (s : State) : (clearError s).turns = s.turns := rfl

@[simp] theorem markFaults_busy (f : FaultSet) (s : State) : (markFaults f s).busy = s.busy := rfl
@[simp] theorem markFaults_err (f : FaultSet) (s : State) : (markFaults f s).err = s.err := rfl
@[simp] theorem markFaults_errCode (f : FaultSet) (s : State) : (markFaults f s).errCode = s.errCode := rfl
@[simp] theorem markFaults_packedEn (f : FaultSet) (s : State) : (markFaults f s).packedEn = s.packedEn := rfl
@[simp] theorem markFaults_opa (f : FaultSet) (s : State) : (markFaults f s).opa = s.opa := rfl
@[simp] theorem markFaults_res (f : FaultSet) (s : State) : (markFaults f s).res = s.res := rfl
@[simp] theorem markFaults_src (f : FaultSet) (s : State) : (markFaults f s).src = s.src := rfl
@[simp] theorem markFaults_dst (f : FaultSet) (s : State) : (markFaults f s).dst = s.dst := rfl
@[simp] theorem markFaults_len (f : FaultSet) (s : State) : (markFaults f s).len = s.len := rfl
@[simp] theorem markFaults_seqJ (f : FaultSet) (s : State) : (markFaults f s).seqJ = s.seqJ := rfl
@[simp] theorem markFaults_seqMode (f : FaultSet) (s : State) : (markFaults f s).seqMode = s.seqMode := rfl
@[simp] theorem markFaults_lg (f : FaultSet) (s : State) : (markFaults f s).lg = s.lg := rfl
@[simp] theorem markFaults_mem (f : FaultSet) (s : State) : (markFaults f s).mem = s.mem := rfl
@[simp] theorem markFaults_params (f : FaultSet) (s : State) : (markFaults f s).params = s.params := rfl
@[simp] theorem markFaults_draws (f : FaultSet) (s : State) : (markFaults f s).draws = s.draws := rfl
@[simp] theorem markFaults_readData (f : FaultSet) (s : State) : (markFaults f s).readData = s.readData := rfl
@[simp] theorem markFaults_host (f : FaultSet) (s : State) : (markFaults f s).host = s.host := rfl
@[simp] theorem markFaults_turns (f : FaultSet) (s : State) : (markFaults f s).turns = s.turns := rfl

@[simp] theorem markRace_busy (r : Bool) (s : State) : (markRace r s).busy = s.busy := rfl
@[simp] theorem markRace_err (r : Bool) (s : State) : (markRace r s).err = s.err := rfl
@[simp] theorem markRace_errCode (r : Bool) (s : State) : (markRace r s).errCode = s.errCode := rfl
@[simp] theorem markRace_packedEn (r : Bool) (s : State) : (markRace r s).packedEn = s.packedEn := rfl
@[simp] theorem markRace_opa (r : Bool) (s : State) : (markRace r s).opa = s.opa := rfl
@[simp] theorem markRace_res (r : Bool) (s : State) : (markRace r s).res = s.res := rfl
@[simp] theorem markRace_src (r : Bool) (s : State) : (markRace r s).src = s.src := rfl
@[simp] theorem markRace_dst (r : Bool) (s : State) : (markRace r s).dst = s.dst := rfl
@[simp] theorem markRace_len (r : Bool) (s : State) : (markRace r s).len = s.len := rfl
@[simp] theorem markRace_seqJ (r : Bool) (s : State) : (markRace r s).seqJ = s.seqJ := rfl
@[simp] theorem markRace_seqMode (r : Bool) (s : State) : (markRace r s).seqMode = s.seqMode := rfl
@[simp] theorem markRace_lg (r : Bool) (s : State) : (markRace r s).lg = s.lg := rfl
@[simp] theorem markRace_mem (r : Bool) (s : State) : (markRace r s).mem = s.mem := rfl
@[simp] theorem markRace_params (r : Bool) (s : State) : (markRace r s).params = s.params := rfl
@[simp] theorem markRace_draws (r : Bool) (s : State) : (markRace r s).draws = s.draws := rfl
@[simp] theorem markRace_readData (r : Bool) (s : State) : (markRace r s).readData = s.readData := rfl
@[simp] theorem markRace_host (r : Bool) (s : State) : (markRace r s).host = s.host := rfl
@[simp] theorem markRace_turns (r : Bool) (s : State) : (markRace r s).turns = s.turns := rfl

@[simp] theorem dropLaneGroup_busy (s : State) : (dropLaneGroup s).busy = s.busy := rfl
@[simp] theorem dropLaneGroup_err (s : State) : (dropLaneGroup s).err = s.err := rfl
@[simp] theorem dropLaneGroup_errCode (s : State) : (dropLaneGroup s).errCode = s.errCode := rfl
@[simp] theorem dropLaneGroup_packedEn (s : State) : (dropLaneGroup s).packedEn = s.packedEn := rfl
@[simp] theorem dropLaneGroup_opa (s : State) : (dropLaneGroup s).opa = s.opa := rfl
@[simp] theorem dropLaneGroup_res (s : State) : (dropLaneGroup s).res = s.res := rfl
@[simp] theorem dropLaneGroup_src (s : State) : (dropLaneGroup s).src = s.src := rfl
@[simp] theorem dropLaneGroup_dst (s : State) : (dropLaneGroup s).dst = s.dst := rfl
@[simp] theorem dropLaneGroup_len (s : State) : (dropLaneGroup s).len = s.len := rfl
@[simp] theorem dropLaneGroup_seqJ (s : State) : (dropLaneGroup s).seqJ = s.seqJ := rfl
@[simp] theorem dropLaneGroup_seqMode (s : State) : (dropLaneGroup s).seqMode = s.seqMode := rfl
@[simp] theorem dropLaneGroup_mem (s : State) : (dropLaneGroup s).mem = s.mem := rfl
@[simp] theorem dropLaneGroup_faults (s : State) : (dropLaneGroup s).faults = s.faults := rfl
@[simp] theorem dropLaneGroup_params (s : State) : (dropLaneGroup s).params = s.params := rfl
@[simp] theorem dropLaneGroup_readData (s : State) : (dropLaneGroup s).readData = s.readData := rfl
@[simp] theorem dropLaneGroup_host (s : State) : (dropLaneGroup s).host = s.host := rfl
@[simp] theorem dropLaneGroup_turns (s : State) : (dropLaneGroup s).turns = s.turns := rfl

@[simp] theorem memWrite1_busy (a : Addr) (b : Byte) (s : State) : (memWrite1 a b s).busy = s.busy := rfl
@[simp] theorem memWrite1_err (a : Addr) (b : Byte) (s : State) : (memWrite1 a b s).err = s.err := rfl
@[simp] theorem memWrite1_errCode (a : Addr) (b : Byte) (s : State) : (memWrite1 a b s).errCode = s.errCode := rfl
@[simp] theorem memWrite1_packedEn (a : Addr) (b : Byte) (s : State) : (memWrite1 a b s).packedEn = s.packedEn := rfl
@[simp] theorem memWrite1_opa (a : Addr) (b : Byte) (s : State) : (memWrite1 a b s).opa = s.opa := rfl
@[simp] theorem memWrite1_res (a : Addr) (b : Byte) (s : State) : (memWrite1 a b s).res = s.res := rfl
@[simp] theorem memWrite1_src (a : Addr) (b : Byte) (s : State) : (memWrite1 a b s).src = s.src := rfl
@[simp] theorem memWrite1_dst (a : Addr) (b : Byte) (s : State) : (memWrite1 a b s).dst = s.dst := rfl
@[simp] theorem memWrite1_len (a : Addr) (b : Byte) (s : State) : (memWrite1 a b s).len = s.len := rfl
@[simp] theorem memWrite1_seqJ (a : Addr) (b : Byte) (s : State) : (memWrite1 a b s).seqJ = s.seqJ := rfl
@[simp] theorem memWrite1_seqMode (a : Addr) (b : Byte) (s : State) : (memWrite1 a b s).seqMode = s.seqMode := rfl
@[simp] theorem memWrite1_lg (a : Addr) (b : Byte) (s : State) : (memWrite1 a b s).lg = s.lg := rfl
@[simp] theorem memWrite1_faults (a : Addr) (b : Byte) (s : State) : (memWrite1 a b s).faults = s.faults := rfl
@[simp] theorem memWrite1_params (a : Addr) (b : Byte) (s : State) : (memWrite1 a b s).params = s.params := rfl
@[simp] theorem memWrite1_draws (a : Addr) (b : Byte) (s : State) : (memWrite1 a b s).draws = s.draws := rfl
@[simp] theorem memWrite1_readData (a : Addr) (b : Byte) (s : State) : (memWrite1 a b s).readData = s.readData := rfl
@[simp] theorem memWrite1_host (a : Addr) (b : Byte) (s : State) : (memWrite1 a b s).host = s.host := rfl
@[simp] theorem memWrite1_turns (a : Addr) (b : Byte) (s : State) : (memWrite1 a b s).turns = s.turns := rfl

@[simp] theorem memWrite4_busy (a : Addr) (v : Word) (s : State) : (memWrite4 a v s).busy = s.busy := rfl
@[simp] theorem memWrite4_err (a : Addr) (v : Word) (s : State) : (memWrite4 a v s).err = s.err := rfl
@[simp] theorem memWrite4_errCode (a : Addr) (v : Word) (s : State) : (memWrite4 a v s).errCode = s.errCode := rfl
@[simp] theorem memWrite4_packedEn (a : Addr) (v : Word) (s : State) : (memWrite4 a v s).packedEn = s.packedEn := rfl
@[simp] theorem memWrite4_opa (a : Addr) (v : Word) (s : State) : (memWrite4 a v s).opa = s.opa := rfl
@[simp] theorem memWrite4_res (a : Addr) (v : Word) (s : State) : (memWrite4 a v s).res = s.res := rfl
@[simp] theorem memWrite4_src (a : Addr) (v : Word) (s : State) : (memWrite4 a v s).src = s.src := rfl
@[simp] theorem memWrite4_dst (a : Addr) (v : Word) (s : State) : (memWrite4 a v s).dst = s.dst := rfl
@[simp] theorem memWrite4_len (a : Addr) (v : Word) (s : State) : (memWrite4 a v s).len = s.len := rfl
@[simp] theorem memWrite4_seqJ (a : Addr) (v : Word) (s : State) : (memWrite4 a v s).seqJ = s.seqJ := rfl
@[simp] theorem memWrite4_seqMode (a : Addr) (v : Word) (s : State) : (memWrite4 a v s).seqMode = s.seqMode := rfl
@[simp] theorem memWrite4_lg (a : Addr) (v : Word) (s : State) : (memWrite4 a v s).lg = s.lg := rfl
@[simp] theorem memWrite4_faults (a : Addr) (v : Word) (s : State) : (memWrite4 a v s).faults = s.faults := rfl
@[simp] theorem memWrite4_params (a : Addr) (v : Word) (s : State) : (memWrite4 a v s).params = s.params := rfl
@[simp] theorem memWrite4_draws (a : Addr) (v : Word) (s : State) : (memWrite4 a v s).draws = s.draws := rfl
@[simp] theorem memWrite4_readData (a : Addr) (v : Word) (s : State) : (memWrite4 a v s).readData = s.readData := rfl
@[simp] theorem memWrite4_host (a : Addr) (v : Word) (s : State) : (memWrite4 a v s).host = s.host := rfl
@[simp] theorem memWrite4_turns (a : Addr) (v : Word) (s : State) : (memWrite4 a v s).turns = s.turns := rfl

@[simp] theorem resetEvent_mem (s : State) : (resetEvent s).mem = s.mem := rfl
@[simp] theorem resetEvent_faults (s : State) : (resetEvent s).faults = s.faults := rfl
@[simp] theorem resetEvent_params (s : State) : (resetEvent s).params = s.params := rfl
@[simp] theorem resetEvent_readData (s : State) : (resetEvent s).readData = s.readData := rfl
@[simp] theorem resetEvent_host (s : State) : (resetEvent s).host = s.host := rfl
@[simp] theorem resetEvent_turns (s : State) : (resetEvent s).turns = s.turns := rfl

@[simp] theorem startNegv_err (s : State) : (startNegv s).err = s.err := by
  unfold startNegv
  split <;> rfl
@[simp] theorem startNegv_errCode (s : State) : (startNegv s).errCode = s.errCode := by
  unfold startNegv
  split <;> rfl
@[simp] theorem startNegv_packedEn (s : State) : (startNegv s).packedEn = s.packedEn := by
  unfold startNegv
  split <;> rfl
@[simp] theorem startNegv_opa (s : State) : (startNegv s).opa = s.opa := by
  unfold startNegv
  split <;> rfl
@[simp] theorem startNegv_res (s : State) : (startNegv s).res = s.res := by
  unfold startNegv
  split <;> rfl
@[simp] theorem startNegv_src (s : State) : (startNegv s).src = s.src := by
  unfold startNegv
  split <;> rfl
@[simp] theorem startNegv_dst (s : State) : (startNegv s).dst = s.dst := by
  unfold startNegv
  split <;> rfl
@[simp] theorem startNegv_len (s : State) : (startNegv s).len = s.len := by
  unfold startNegv
  split <;> rfl
@[simp] theorem startNegv_lg (s : State) : (startNegv s).lg = s.lg := by
  unfold startNegv
  split <;> rfl
@[simp] theorem startNegv_mem (s : State) : (startNegv s).mem = s.mem := by
  unfold startNegv
  split <;> rfl
@[simp] theorem startNegv_params (s : State) : (startNegv s).params = s.params := by
  unfold startNegv
  split <;> rfl
@[simp] theorem startNegv_draws (s : State) : (startNegv s).draws = s.draws := by
  unfold startNegv
  split <;> rfl
@[simp] theorem startNegv_readData (s : State) : (startNegv s).readData = s.readData := by
  unfold startNegv
  split <;> rfl
@[simp] theorem startNegv_host (s : State) : (startNegv s).host = s.host := by
  unfold startNegv
  split <;> rfl
@[simp] theorem startNegv_turns (s : State) : (startNegv s).turns = s.turns := by
  unfold startNegv
  split <;> rfl

@[simp] theorem groupStep_err (s : State) : (groupStep s).err = s.err := by rw [groupStep_eq]
@[simp] theorem groupStep_errCode (s : State) : (groupStep s).errCode = s.errCode := by rw [groupStep_eq]
@[simp] theorem groupStep_packedEn (s : State) : (groupStep s).packedEn = s.packedEn := by rw [groupStep_eq]
@[simp] theorem groupStep_opa (s : State) : (groupStep s).opa = s.opa := by rw [groupStep_eq]
@[simp] theorem groupStep_res (s : State) : (groupStep s).res = s.res := by rw [groupStep_eq]
@[simp] theorem groupStep_src (s : State) : (groupStep s).src = s.src := by rw [groupStep_eq]
@[simp] theorem groupStep_dst (s : State) : (groupStep s).dst = s.dst := by rw [groupStep_eq]
@[simp] theorem groupStep_len (s : State) : (groupStep s).len = s.len := by rw [groupStep_eq]
@[simp] theorem groupStep_seqMode (s : State) : (groupStep s).seqMode = s.seqMode := by rw [groupStep_eq]
@[simp] theorem groupStep_faults (s : State) : (groupStep s).faults = s.faults := by rw [groupStep_eq]
@[simp] theorem groupStep_params (s : State) : (groupStep s).params = s.params := by rw [groupStep_eq]
@[simp] theorem groupStep_readData (s : State) : (groupStep s).readData = s.readData := by rw [groupStep_eq]
@[simp] theorem groupStep_host (s : State) : (groupStep s).host = s.host := by rw [groupStep_eq]
@[simp] theorem groupStep_turns (s : State) : (groupStep s).turns = s.turns := by rw [groupStep_eq]

@[simp] theorem scalarStep_err (s : State) : (scalarStep s).err = s.err := by rw [scalarStep_eq]
@[simp] theorem scalarStep_errCode (s : State) : (scalarStep s).errCode = s.errCode := by rw [scalarStep_eq]
@[simp] theorem scalarStep_packedEn (s : State) : (scalarStep s).packedEn = s.packedEn := by rw [scalarStep_eq]
@[simp] theorem scalarStep_opa (s : State) : (scalarStep s).opa = s.opa := by rw [scalarStep_eq]
@[simp] theorem scalarStep_res (s : State) : (scalarStep s).res = s.res := by rw [scalarStep_eq]
@[simp] theorem scalarStep_src (s : State) : (scalarStep s).src = s.src := by rw [scalarStep_eq]
@[simp] theorem scalarStep_dst (s : State) : (scalarStep s).dst = s.dst := by rw [scalarStep_eq]
@[simp] theorem scalarStep_len (s : State) : (scalarStep s).len = s.len := by rw [scalarStep_eq]
@[simp] theorem scalarStep_seqMode (s : State) : (scalarStep s).seqMode = s.seqMode := by rw [scalarStep_eq]
@[simp] theorem scalarStep_lg (s : State) : (scalarStep s).lg = s.lg := by rw [scalarStep_eq]
@[simp] theorem scalarStep_faults (s : State) : (scalarStep s).faults = s.faults := by rw [scalarStep_eq]
@[simp] theorem scalarStep_params (s : State) : (scalarStep s).params = s.params := by rw [scalarStep_eq]
@[simp] theorem scalarStep_draws (s : State) : (scalarStep s).draws = s.draws := by rw [scalarStep_eq]
@[simp] theorem scalarStep_readData (s : State) : (scalarStep s).readData = s.readData := by rw [scalarStep_eq]
@[simp] theorem scalarStep_host (s : State) : (scalarStep s).host = s.host := by rw [scalarStep_eq]
@[simp] theorem scalarStep_turns (s : State) : (scalarStep s).turns = s.turns := by rw [scalarStep_eq]

end Sys2Proof.Machine
end

