-- ==== Sys2Proof/Laws/PerInstr.lean ====
section
/-!
SUPPORT. A law of the command words, one lemma for each command: the word is well formed, and read back from the register
port's byte lanes, with anything behind it, it is the command again.
-/

namespace Sys2Proof.Laws.CommandWord

open Sys2Proof

/-- The command is well formed, its word passes both checks, and its four bytes decode to it (30_encoding.md R70, R75, R78). -/
def Statement (i : Instr) : Prop :=
  i.wellFormed = true ∧ WellFormed.commandWord (encode i) = true ∧
    ∀ rest : List Byte, decodeBytes (encodeBytes i ++ rest) = .ok (i, rest)

theorem snegQ7 : Statement .snegQ7 := ⟨rfl, rfl, fun _ => rfl⟩
theorem pnegB4 : Statement .pnegB4 := ⟨rfl, rfl, fun _ => rfl⟩
theorem psatB4 : Statement .psatB4 := ⟨rfl, rfl, fun _ => rfl⟩
theorem pnegsB4 : Statement .pnegsB4 := ⟨rfl, rfl, fun _ => rfl⟩
theorem negv : Statement .negv := ⟨rfl, rfl, fun _ => rfl⟩

end Sys2Proof.Laws.CommandWord
end

