-- ==== Sys2Proof/Laws/Step.lean ====
section
/-!
SUPPORT. Everything a host transaction and a step of the machine can do, said once.
-/

namespace Sys2Proof.Machine

/-- A command is refused while the block is busy (60_exceptions.md R155). -/
theorem exec_busy (i : Instr) (s : State) (h : s.busy = true) : exec i s = .next (raiseError .busy s) := by
  cases i <;>
    simp [exec, execSnegQ7, execPnegB4, execPsatB4, execPnegsB4, execNegv, packedCommand, refuseWhileBusy, h]

/-- A packed command that runs. -/
theorem packedCommand_run (op : PackedOp) (s : State) (hb : s.busy = false) (hp : s.params.hasPacked = true) :
    packedCommand op s = { s with res := packedUnit op s.opa } := by
  simp [packedCommand, refuseWhileBusy, requirePacked, hb, hp, packedOperand, State.setRes]

/-- A packed command without the packed unit. -/
theorem packedCommand_absent (op : PackedOp) (s : State) (hb : s.busy = false) (hp : s.params.hasPacked = false) :
    packedCommand op s = raiseError .unimplCmd s := by
  simp [packedCommand, refuseWhileBusy, requirePacked, hb, hp]

/-- Everything a command can do: it raises an error, writes `RES`, or starts the sequencer. -/
theorem exec_cases (i : Instr) (s : State) :
    (∃ c, exec i s = .next (raiseError c s)) ∨
      (s.busy = false ∧ i ≠ .negv ∧ ∃ v, exec i s = .next (s.setRes v)) ∨
      (s.busy = false ∧ i = .negv ∧ exec i s = .next (startNegv s)) := by
  cases hb : s.busy with
  | true => exact .inl ⟨_, exec_busy i s hb⟩
  | false =>
    cases i with
    | snegQ7 =>
      exact .inr (.inl ⟨rfl, nofun, _, by simp only [exec, execSnegQ7, refuseWhileBusy_idle _ _ hb]; rfl⟩)
    | negv => exact .inr (.inr ⟨rfl, rfl, by simp only [exec, execNegv, refuseWhileBusy_idle _ _ hb]⟩)
    | pnegB4 =>
      cases hp : s.params.hasPacked with
      | true => exact .inr (.inl ⟨rfl, nofun, _, congrArg _ (packedCommand_run .neg s hb hp)⟩)
      | false => exact .inl ⟨_, congrArg _ (packedCommand_absent .neg s hb hp)⟩
    | psatB4 =>
      cases hp : s.params.hasPacked with
      | true => exact .inr (.inl ⟨rfl, nofun, _, congrArg _ (packedCommand_run .sat s hb hp)⟩)
      | false => exact .inl ⟨_, congrArg _ (packedCommand_absent .sat s hb hp)⟩
    | pnegsB4 =>
      cases hp : s.params.hasPacked with
      | true => exact .inr (.inl ⟨rfl, nofun, _, congrArg _ (packedCommand_run .negs s hb hp)⟩)
      | false => exact .inl ⟨_, congrArg _ (packedCommand_absent .negs s hb hp)⟩

/-- A refused or accepted register write. -/
theorem refuseWhileBusy_cases (run : State → State) (s : State) :
    (s.busy = true ∧ refuseWhileBusy run s = raiseError .busy s) ∨
      (s.busy = false ∧ refuseWhileBusy run s = run s) := by
  cases hb : s.busy with
  | true => exact .inl ⟨rfl, refuseWhileBusy_busy _ _ hb⟩
  | false => exact .inr ⟨rfl, refuseWhileBusy_idle _ _ hb⟩

/-- The register writes that change a register, a result or the sequencer: accepted ones only. -/
inductive AcceptedWrite (r : Reg) (v : Word) (s : State) : State → Prop where
  | direct (i : Instr) (w : Word) : r = .cmd → decodeWord v = .ok i → i ≠ .negv → exec i s = .next (s.setRes w) →
      AcceptedWrite r v s (s.setRes w)
  | start : r = .cmd → decodeWord v = .ok .negv → AcceptedWrite r v s (startNegv s)
  | cfg : r = .cfg → AcceptedWrite r v s (s.setPackedEn (v.getLsbD 0 && s.params.hasPacked))
  | opa : r = .opa → AcceptedWrite r v s (s.setOpa v)
  | src : r = .src → AcceptedWrite r v s (s.setSrc v)
  | dst : r = .dst → AcceptedWrite r v s (s.setDst v)
  | len : r = .len → AcceptedWrite r v s (s.setLen v)

/-- Everything a register write of the legal form can do (10_state.md R21, R25 to R35): it is ignored, it raises an error,
it clears the error, or it is accepted. -/
theorem regWrite_cases (r : Reg) (v : Word) (s : State) :
    ∃ t, regWrite r v s = .next t ∧
      (t = s ∨ (∃ c, t = raiseError c s) ∨ t = clearError s ∨ (s.busy = false ∧ AcceptedWrite r v s t)) := by
  have guarded (run : State → State) (ha : s.busy = false → AcceptedWrite r v s (run s)) :
      refuseWhileBusy run s = s ∨ (∃ c, refuseWhileBusy run s = raiseError c s) ∨
        refuseWhileBusy run s = clearError s ∨ (s.busy = false ∧ AcceptedWrite r v s (refuseWhileBusy run s)) := by
    rcases refuseWhileBusy_cases run s with ⟨_, h⟩ | ⟨hb, h⟩
    · exact .inr (.inl ⟨_, h⟩)
    · exact .inr (.inr (.inr ⟨hb, h ▸ ha hb⟩))
  cases r with
  | cap | res | reserved => exact ⟨s, rfl, .inl rfl⟩
  | status =>
    refine ⟨statusWrite v s, rfl, ?_⟩
    by_cases h : v.getLsbD 1 = true
    · exact .inr (.inr (.inl (by rw [statusWrite, if_pos h])))
    · exact .inl (by rw [statusWrite, if_neg h])
  | cfg => exact ⟨_, rfl, guarded _ fun _ => .cfg rfl⟩
  | opa => exact ⟨_, rfl, guarded _ fun _ => .opa rfl⟩
  | src => exact ⟨_, rfl, guarded _ fun _ => .src rfl⟩
  | dst => exact ⟨_, rfl, guarded _ fun _ => .dst rfl⟩
  | len => exact ⟨_, rfl, guarded _ fun _ => .len rfl⟩
  | cmd =>
    simp only [regWrite, cmdWrite]
    cases hb : s.busy with
    | true => exact ⟨_, rfl, .inr (.inl ⟨_, rfl⟩)⟩
    | false =>
      cases hd : decodeWord v with
      | error e => exact ⟨_, rfl, .inr (.inl ⟨_, rfl⟩)⟩
      | ok i =>
        rcases exec_cases i s with ⟨c, h⟩ | ⟨_, hi, w, h⟩ | ⟨_, hi, h⟩
        · exact ⟨_, h, .inr (.inl ⟨c, rfl⟩)⟩
        · exact ⟨_, h, .inr (.inr (.inr ⟨rfl, .direct i w rfl hd hi h⟩))⟩
        · exact ⟨_, h, .inr (.inr (.inr ⟨rfl, .start rfl (hi ▸ hd)⟩))⟩

/-- Everything a host transaction can do: a register write; a read or an illegal access, which can only return a value
and mark a fault; a store of one byte; or a round of `poll`. -/
theorem hostAction_cases (a : HostAction) (s : State) :
    ∃ t, hostAction a s = .next t ∧
      ((∃ off v, a = .regWrite off 4 v ∧ off % 4 = 0 ∧ off < 0x100 ∧ regWrite (regAt off) v s = .next t) ∨
        (∃ f u n, t = ((markFaults f s).setReadData u).setDraws n) ∨
        (∃ addr b, a = .memStore addr b ∧ inWindow s.params addr = false ∧
          t = memWrite1 addr b (markRace (hostWriteRaces addr s) s)) ∨
        (a = .poll ∧ t = pollRound s)) := by
  cases a with
  | regWrite off size v =>
    by_cases h : regAccessLegal off size = true
    · obtain ⟨t, ht, _⟩ := regWrite_cases (regAt off) v s
      have hl := h
      simp only [regAccessLegal, Bool.and_eq_true, decide_eq_true_eq] at hl
      obtain ⟨⟨rfl, h4⟩, hlt⟩ := hl
      exact ⟨t, by simp only [hostAction, h, if_true, ht], .inl ⟨off, v, rfl, h4, hlt, ht⟩⟩
    · exact ⟨_, by simp only [hostAction, h]; rfl,
        .inr (.inl ⟨{ FaultSet.empty with badRegAccess := true }, s.readData, s.draws, rfl⟩)⟩
  | regRead off size =>
    by_cases h : regAccessLegal off size = true
    · refine ⟨s.setReadData (some (regValue (regAt off) s)), by simp only [hostAction, h, if_true], .inr (.inl ?_)⟩
      refine ⟨FaultSet.empty, some (regValue (regAt off) s), s.draws, ?_⟩
      rw [markFaults_eq, FaultSet.union_empty]
      rfl
    · exact ⟨_, by simp only [hostAction, h]; rfl,
        .inr (.inl ⟨{ FaultSet.empty with badRegAccess := true }, some (Config.badReadValue s.draws), s.draws + 1, rfl⟩)⟩
  | memStore addr b =>
    refine ⟨hostStore addr b s, rfl, ?_⟩
    cases hw : inWindow s.params addr with
    | true =>
      right; left
      exact ⟨{ FaultSet.empty with badRegAccess := true }, s.readData, s.draws, by simp only [hostStore, hw]; rfl⟩
    | false =>
      right; right; left
      exact ⟨addr, b, rfl, hw, by simp [hostStore, hw]⟩
  | memLoad addr =>
    refine ⟨hostLoad addr s, rfl, .inr (.inl ?_)⟩
    cases hw : inWindow s.params addr with
    | true =>
      exact ⟨{ FaultSet.empty with badRegAccess := true }, some (Config.badReadValue s.draws), s.draws + 1,
        by simp only [hostLoad, hw]; rfl⟩
    | false =>
      exact ⟨{ FaultSet.empty with race := hostReadRaces addr s }, some ((memRead1 s addr).setWidth 32), s.draws,
        by simp only [hostLoad, hw]; rfl⟩
  | poll => exact ⟨_, rfl, .inr (.inr (.inr ⟨rfl, rfl⟩))⟩

/-- The state in which the agent whose turn it is moves: the turn is taken off the list. -/
def takeTurn (s : State) : State := s.setTurns s.turns.tail

@[simp] theorem takeTurn_busy (s : State) : (takeTurn s).busy = s.busy := rfl
@[simp] theorem takeTurn_err (s : State) : (takeTurn s).err = s.err := rfl
@[simp] theorem takeTurn_errCode (s : State) : (takeTurn s).errCode = s.errCode := rfl
@[simp] theorem takeTurn_packedEn (s : State) : (takeTurn s).packedEn = s.packedEn := rfl
@[simp] theorem takeTurn_opa (s : State) : (takeTurn s).opa = s.opa := rfl
@[simp] theorem takeTurn_res (s : State) : (takeTurn s).res = s.res := rfl
@[simp] theorem takeTurn_src (s : State) : (takeTurn s).src = s.src := rfl
@[simp] theorem takeTurn_dst (s : State) : (takeTurn s).dst = s.dst := rfl
@[simp] theorem takeTurn_len (s : State) : (takeTurn s).len = s.len := rfl
@[simp] theorem takeTurn_seqJ (s : State) : (takeTurn s).seqJ = s.seqJ := rfl
@[simp] theorem takeTurn_seqMode (s : State) : (takeTurn s).seqMode = s.seqMode := rfl
@[simp] theorem takeTurn_lg (s : State) : (takeTurn s).lg = s.lg := rfl
@[simp] theorem takeTurn_mem (s : State) : (takeTurn s).mem = s.mem := rfl
@[simp] theorem takeTurn_faults (s : State) : (takeTurn s).faults = s.faults := rfl
@[simp] theorem takeTurn_params (s : State) : (takeTurn s).params = s.params := rfl
@[simp] theorem takeTurn_draws (s : State) : (takeTurn s).draws = s.draws := rfl
@[simp] theorem takeTurn_readData (s : State) : (takeTurn s).readData = s.readData := rfl
@[simp] theorem takeTurn_host (s : State) : (takeTurn s).host = s.host := rfl
@[simp] theorem takeTurn_turns (s : State) : (takeTurn s).turns = s.turns.tail := rfl

theorem takeTurn_of_nil (s : State) (h : s.turns = []) : takeTurn s = s := by
  cases s
  simp_all [takeTurn, State.setTurns]

/-- Everything a step can do: the reset input comes, the sequencer takes its step, a host transaction is done, or nothing
happens but that a turn passes. -/
theorem step_cases (s t : State) (h : step s = .next t) :
    (s.turns.head? = some .reset ∧ t = resetEvent (takeTurn s)) ∨
      (s.turns.head? ≠ some .reset ∧
        (sequencerStep (takeTurn s) = some t ∨
          (∃ a rest, s.host = a :: rest ∧ hostAction a ((takeTurn s).setHost rest) = .next t) ∨
          t = takeTurn s)) := by
  have host_move (u : State) (hu : hostTurn u = .next t) :
      (∃ a rest, u.host = a :: rest ∧ hostAction a (u.setHost rest) = .next t) ∨ t = u := by
    cases hh : u.host with
    | nil => simp only [hostTurn, hh, Host.Outcome.next.injEq] at hu; exact .inr hu.symm
    | cons a rest => simp only [hostTurn, hh] at hu; exact .inl ⟨a, rest, rfl, hu⟩
  cases ht : s.turns with
  | nil =>
    right
    refine ⟨nofun, ?_⟩
    rw [takeTurn_of_nil s ht]
    simp only [step, nextTurn, ht, defaultTurn] at h
    cases hq : sequencerStep s with
    | some u => simp only [hq, Host.Outcome.next.injEq] at h; exact .inl (congrArg some h)
    | none =>
      simp only [hq] at h
      split at h
      · cases h
      · exact .inr (host_move s h)
  | cons x rest =>
    have hx : takeTurn s = s.setTurns rest := by simp [takeTurn, ht]
    simp only [step, nextTurn, ht, grantedTurn, ← hx] at h
    cases x with
    | reset => simp only [Host.Outcome.next.injEq] at h; exact .inl ⟨rfl, h.symm⟩
    | host => exact .inr ⟨nofun, .inr (host_move _ h)⟩
    | block =>
      simp only [Host.Outcome.next.injEq] at h
      refine .inr ⟨nofun, ?_⟩
      rcases blockTurn_cases (takeTurn s) with ⟨_, hb⟩ | hb
      · exact .inr (.inr (h ▸ hb))
      · exact .inl (h ▸ hb)

end Sys2Proof.Machine
end

