-- ==== Sys2Proof/Tests/Slice0.lean ====
section
/-!
SUPPORT. The model's own tests. Expected values are the spec's: the encodings of 30_encoding.md R75, the tables of
95_test_vectors.md, and the worked examples of the rules. After them, for each statement with hypotheses, a witness that
meets them.
-/

namespace Sys2Proof.Tests

open Sys2Proof Sys2Proof.Machine

/-! ## Small states -/

/-- The state after a step or a meaning, or the given one where there is none. -/
def nextOf (d : State) (o : Host.Outcome State Fault Refusal) : State :=
  match o with
  | .next t => t
  | _ => d

/-- The reset state with one operand. -/
def withOpa (v : Word) : State := { State.reset with opa := v }

/-- The reset state of a build without the packed unit. -/
def scalarOnly : State := State.resetWith { Params.atReset with hasPacked := false }

/-- The source bytes `05 80 FF 00 7F FB 80` at 0x1000 (95_test_vectors.md P3). -/
def sample : Memory :=
  [(0x1000, 0x05), (0x1001, 0x80), (0x1002, 0xFF), (0x1003, 0x00), (0x1004, 0x7F), (0x1005, 0xFB), (0x1006, 0x80)]

/-- Ready for a `NEGV` of seven bytes from 0x1000 to 0x2000 (95_test_vectors.md P3). -/
def ready : State := { State.reset with src := 0x1000, dst := 0x2000, len := 7, packedEn := true, mem := sample }

/-- That `NEGV` running, at element `j`. -/
def running (j : Word) : State := { ready with busy := true, seqMode := true, seqJ := j }

/-- A host's turn with one transaction. -/
def hostDoes (a : HostAction) (s : State) : State := { s with host := [a], turns := [.host] }

/-! ## Encoding -/

theorem test_sneg_word : decodeWord 0b00000000000000000000000000000001 = .ok .snegQ7 := rfl
theorem test_pneg_word : decodeWord 0b00000000000000000000000000000010 = .ok .pnegB4 := rfl
theorem test_psat_word : decodeWord 0b00000000000000000000000000000011 = .ok .psatB4 := rfl
theorem test_pnegs_word : decodeWord 0b00000000000000000000000000000100 = .ok .pnegsB4 := rfl
theorem test_negv_word : decodeWord 0b00000000000000000000000000000101 = .ok .negv := rfl

/-- 30_encoding.md R72, R76: names of the rejections. -/
theorem test_rejected_words :
    decodeWord 0x00000000 = .error .reservedOpcode ∧ decodeWord 0x00000006 = .error .reservedOpcode ∧
      decodeWord 0x000000FF = .error .reservedOpcode ∧ decodeWord 0x00000105 = .error .reservedBits ∧
      decodeWord 0x80000001 = .error .reservedBits ∧ decodeBytes [0x01, 0x00, 0x00] = .error .tooShort :=
  ⟨rfl, rfl, rfl, rfl, rfl, rfl⟩

/-- The ill-formed words that each check of WellFormed refuses. -/
theorem test_ill_formed_words :
    WellFormed.reservedClear 0x00000101 = false ∧ WellFormed.opcodeDefined 0x00000000 = false ∧
      WellFormed.opcodeDefined 0x00000006 = false ∧ WellFormed.commandWord 0x00000105 = false ∧
      WellFormed.commandWord 0x00000000 = false ∧ WellFormed.implemented false .pnegsB4 = false := by decide

theorem test_table_words :
    [1, 2, 3, 4, 5].map (decodeTableWord 32) =
        [some .snegQ7, some .pnegB4, some .psatB4, some .pnegsB4, some .negv] ∧
      [0, 6, 0x105].map (decodeTableWord 32) = [none, none, none] := by decide

/-! ## Arithmetic: 95_test_vectors.md section 2.1 -/

theorem test_lane_functions :
    ([0x00, 0x01, 0x05, 0x40, 0x7E, 0x7F, 0x80, 0x81, 0xC0, 0xFF] : List Byte).map (fun b => (rawneg8 b, lanefix8 b, satneg8 b)) =
      [(0x00, 0x00, 0x00), (0xFF, 0x01, 0xFF), (0xFB, 0x05, 0xFB), (0xC0, 0x40, 0xC0), (0x82, 0x7E, 0x82),
       (0x81, 0x7F, 0x81), (0x80, 0x7F, 0x7F), (0x7F, 0x81, 0x7F), (0x40, 0xC0, 0x40), (0x01, 0xFF, 0x01)] := by decide

/-! ## The commands: 95_test_vectors.md sections 2.2 to 2.4 -/

theorem test_sneg_results :
    ([0x00000080, 0x0000007F, 0x00000001, 0xABCDEF80, 0xFFFFFF40, 0x123456C0] : List Word).map
        (fun v => (nextOf State.reset (exec .snegQ7 (withOpa v))).res) =
      [0x0000007F, 0xFFFFFF81, 0xFFFFFFFF, 0x0000007F, 0xFFFFFFC0, 0x00000040] := by decide

theorem test_pneg_results :
    ([0x80FF0100, 0x80808080, 0x00000100, 0x01020304, 0xC0FB4005] : List Word).map
        (fun v => (nextOf State.reset (exec .pnegB4 (withOpa v))).res) =
      [0x8001FF00, 0x80808080, 0x0000FF00, 0xFFFEFDFC, 0x4005C0FB] := by decide

theorem test_psat_results :
    ([0x80FF0100, 0x8001FF00, 0x80808080, 0x7F817F81, 0x80000080] : List Word).map
        (fun v => (nextOf State.reset (exec .psatB4 (withOpa v))).res) =
      [0x7FFF0100, 0x7F01FF00, 0x7F7F7F7F, 0x7F817F81, 0x7F00007F] := by decide

theorem test_pnegs_results :
    ([0x80FF0100, 0x8001FF00, 0x80808080, 0x00000100, 0x01020304] : List Word).map
        (fun v => (nextOf State.reset (exec .pnegsB4 (withOpa v))).res) =
      [0x7F01FF00, 0x7FFF0100, 0x7F7F7F7F, 0x0000FF00, 0xFFFEFDFC] := by decide

/-- P3 step 13: BUSY = 1, SEQ_J = 0, SEQ_MODE = 1, and no model fault. -/
theorem test_negv_start :
    (nextOf State.reset (exec .negv ready)).busy = true ∧ (nextOf State.reset (exec .negv ready)).seqMode = true ∧
      (nextOf State.reset (exec .negv ready)).faults = FaultSet.empty := by decide

/-- N7, N8, N9, N10: the range check. -/
theorem test_negv_range_check :
    [(0x1000, 0x1001), (0x1001, 0x1000), (0xFFFFFFFE, 0x2000), (0xFFFFFFFC, 0x2000), (0x1000, 0x1000)].map
        (fun sd => let f := (nextOf State.reset (exec .negv { State.reset with src := sd.1, dst := sd.2, len := 4 })).faults
          (f.overlap, f.wrap)) =
      [(true, false), (true, false), (false, true), (false, false), (false, false)] := by decide

/-- P3 step S1: lanes `05 80 FF 00` become `FB 7F 01 00`. -/
theorem test_group_step :
    (blockTurn (running 0)).mem =
        sample ++ [(0x2000, 0xFB), (0x2001, 0x7F), (0x2002, 0x01), (0x2003, 0x00)] ∧
      (blockTurn (running 0)).seqJ = 4 ∧ (blockTurn (running 0)).busy = true := by decide

/-- P3 steps S2 and S4: `7F` becomes `81`; the last element `80` becomes `7F` and clears BUSY. -/
theorem test_scalar_steps :
    (blockTurn (running 4)).mem = sample ++ [(0x2004, 0x81)] ∧ (blockTurn (running 4)).busy = true ∧
      (blockTurn (running 6)).mem = sample ++ [(0x2006, 0x7F)] ∧ (blockTurn (running 6)).busy = false := by decide

/-- N11: an unadmitted destination byte leaves the block stuck, with BUSY 1 and nothing written. -/
theorem test_stuck :
    let s := { running 0 with params := { Params.atReset with admitted := [⟨0, 0x2002⟩, ⟨0x2003, 0x1000⟩] } }
    blockTurn s = s ∧ s.busy = true ∧ stepEnabled s = false := by decide

/-! ## Errors: 95_test_vectors.md section 2.5 -/

/-- E1, E3, E5: illegal words on an idle block. -/
theorem test_illegal_words :
    ([0x00000000, 0x00000105, 0x00000102] : List Word).map
        (fun v => statusWord (nextOf State.reset (step (hostDoes (cmdRaw v) scalarOnly)))) =
      [0x00000012, 0x00000012, 0x00000012] := by decide

/-- E4: a packed command without the packed unit. -/
theorem test_unimplemented :
    statusWord (nextOf State.reset (step (hostDoes (cmd .pnegsB4) scalarOnly))) = 0x00000022 := by decide

/-- E6, E7, E8: writes while busy. -/
theorem test_writes_while_busy :
    [wr .opa 0x12345678, cmdRaw 0x00000000, wr .cap 1, wr .res 1, .regWrite 0x40 4 1].map
        (fun a => statusWord (nextOf State.reset (step (hostDoes a (running 0))))) =
      [0x00000033, 0x00000033, 0x00000001, 0x00000001, 0x00000001] := by decide

/-- E9 to E12: the first error wins, and only bit 1 clears it. -/
theorem test_error_clearing :
    statusWord (nextOf State.reset (exec .pnegsB4 { scalarOnly with err := true, errCode := 1 })) = 0x00000012 ∧
      statusWord (statusWrite 0xFFFFFFFD { State.reset with err := true, errCode := 1 }) = 0x00000012 ∧
      statusWord (statusWrite 0x00000002 { running 0 with err := true, errCode := 3 }) = 0x00000001 := by decide

/-! ## The register port: 95_test_vectors.md section 2.6 -/

/-- P-c, P-f, P-g: reserved offset, CAP, and CFG after a write of all ones. -/
theorem test_port_reads :
    (nextOf State.reset (step (hostDoes (.regRead 0xFC 4) (withOpa 5)))).readData = some 0 ∧
      (nextOf State.reset (step (hostDoes (rd .cap) scalarOnly))).readData = some 0 ∧
      (nextOf State.reset (step (hostDoes (rd .cap) State.reset))).readData = some 1 ∧
      cfgWord (cfgWrite 0xFFFFFFFF State.reset) = 1 ∧ cfgWord (cfgWrite 0xFFFFFFFF scalarOnly) = 0 := by decide

/-- P-d, P-e: a 1-byte read and a misplaced 4-byte write. -/
theorem test_bad_accesses :
    (nextOf State.reset (step (hostDoes (.regRead 0x10 1) State.reset))).faults.badRegAccess = true ∧
      (nextOf State.reset (step (hostDoes (.regWrite 0x12 4 7) State.reset))).faults.badRegAccess = true ∧
      (nextOf State.reset (step (hostDoes (.regWrite 0x12 4 7) State.reset))).opa = 0 := by decide

/-- 20_memory.md R65: races, and a read of a source byte, which is none. -/
theorem test_races :
    [HostAction.memStore 0x1006 0, .memStore 0x2000 0, .memLoad 0x2006, .memLoad 0x1000, .memStore 0x2007 0].map
        (fun a => (nextOf State.reset (step (hostDoes a (running 0)))).faults.race) =
      [true, true, true, false, false] := by decide

/-- 30_encoding.md R80: the expansion of `negv`, and `poll` waiting on a busy block. -/
theorem test_pseudo :
    expandPseudo (.negv 0x2000 0x1000 7 1) =
        [.regWrite 0x18 4 0x1000, .regWrite 0x1C 4 0x2000, .regWrite 0x20 4 7, .regWrite 0x08 4 1,
         .regWrite 0x00 4 5, .poll] ∧
      (nextOf State.reset (step (hostDoes .poll (running 0)))).host = [.poll] ∧
      (nextOf State.reset (step (hostDoes .poll State.reset))).host = [] := by decide

/-- 70_reset_and_hazards.md R180 to R182: reset during a run keeps the memory. -/
theorem test_reset_event :
    let t := nextOf State.reset (step { running 4 with turns := [.reset] })
    statusWord t = 0 ∧ t.len = 0 ∧ t.mem = sample := by decide

/-- Each command's word runs as the first command after reset. -/
theorem test_first_step :
    [Instr.snegQ7, .pnegB4, .psatB4, .pnegsB4, .negv].map
        (fun i => statusWord (nextOf (running 0) (step (State.reset.withFetchWord 32 (encode i).toNat)))) =
      [0, 0, 0, 0, 0] := by decide

/-- 10_state.md R20 before 20_memory.md R65 (log 26): a byte access in the window, at an address of a busy destination. -/
theorem test_window_byte_in_busy_buffer :
    let f := (nextOf State.reset (step (hostDoes (.memStore 0xFC 1) { running 0 with dst := 0xFC }))).faults
    f.badRegAccess = true ∧ f.race = false := by decide

/-! ## Witnesses: the hypotheses of the statements can be met -/

theorem witness_WordsOutsideTheMapAreIllegal :
    State.reset.busy = false ∧ (0x00000105 : Word).toNat / 256 ≠ 0 ∧ (0x00000000 : Word).toNat % 256 = 0 ∧
      6 ≤ (0x00000006 : Word).toNat % 256 ∧ 6 ≤ (0x000000FF : Word).toNat % 256 := by decide

theorem witness_EveryWordRunsOneCommandOrRaises :
    State.reset.busy = false ∧ (0x00000005 : Word) = encode .negv ∧ (0x00000006 : Word) ≠ encode .negv := by decide

theorem witness_StepRunsTheDecodedCommand :
    let s := hostDoes (.regWrite 0x00 4 0x00000001) State.reset
    s.busy = false ∧ s.host = .regWrite 0x00 4 0x00000001 :: [] ∧ decodeWord 0x00000001 = .ok .snegQ7 ∧
      s.turns = .host :: [] ∧ { s with turns := [] }.turns = [] := ⟨rfl, rfl, rfl, rfl, rfl⟩

/-- A running `NEGV` on a platform that admits no byte, and a host that reads `STATUS`. -/
def nowhereAdmitted : State :=
  { running 0 with params := { Params.atReset with admitted := [] }, host := [rd .status] }

/-- A host's turn, no turn with the block idle, and no turn with the block stuck. -/
theorem witness_HostTurnDoesTheFirstTransaction :
    (∃ a, (hostDoes .poll (running 0)).host = a :: [] ∧ (hostDoes .poll (running 0)).turns = .host :: []) ∧
      (∃ a, { ready with host := [.memLoad 0x1000] }.host = a :: [] ∧ ready.turns = [] ∧
        sequencerStep { ready with host := [.memLoad 0x1000] } = none) ∧
      (nowhereAdmitted.host = rd .status :: [] ∧ nowhereAdmitted.turns = [] ∧ sequencerStep nowhereAdmitted = none) ∧
      ({ State.reset with turns := [.host] }.host = [] ∧ { State.reset with turns := [.host] }.turns = .host :: []) :=
  ⟨⟨_, rfl, rfl⟩, ⟨_, rfl, rfl, rfl⟩, ⟨rfl, rfl, rfl⟩, rfl, rfl⟩

theorem witness_IdleBlockTakesNoStep :
    { ready with turns := [.block] }.busy = false ∧ { ready with turns := [.block] }.turns = .block :: [] ∧
      (State.reset.busy = false ∧ State.reset.turns = [] ∧ State.reset.host = []) := ⟨rfl, rfl, rfl, rfl, rfl⟩

theorem witness_EnabledSequencerStepComesFirst :
    (running 0).turns = [] ∧ ∃ t, sequencerStep (running 0) = some t := ⟨rfl, blockTurn (running 0), rfl⟩

theorem witness_PackedFunctionsActByLane : (0 : Nat) < 4 ∧ 3 < 4 := by decide

theorem witness_PackedLanesAreIndependent :
    (pneg4 = pneg4 ∧ psat4 = psat4 ∧ pnegs4 = pnegs4) ∧ lane 0x80000000 3 = lane 0x12345680 0 := ⟨⟨rfl, rfl, rfl⟩, by decide⟩

theorem witness_SnegQ7Result : (withOpa 0x80).busy = false ∧ (running 0).busy = true := by decide

/-- For PnegB4Result, PsatB4Result and PnegsB4Result. -/
theorem witness_PackedResults :
    ((withOpa 0x80FF0100).busy = false ∧ (withOpa 0x80FF0100).params.hasPacked = true) ∧
      (scalarOnly.busy = false ∧ scalarOnly.params.hasPacked = false) ∧ (running 0).busy = true := by decide

theorem witness_PnegsIsPnegThenPsat :
    ∃ t u, (withOpa 0x80FF0100).busy = false ∧ (withOpa 0x80FF0100).params.hasPacked = true ∧
      exec .pnegB4 (withOpa 0x80FF0100) = .next t ∧ exec .psatB4 { t with opa := t.res } = .next u :=
  ⟨nextOf State.reset (exec .pnegB4 (withOpa 0x80FF0100)), _, rfl, rfl, rfl, rfl⟩

theorem witness_PackedWordsNeedThePackedUnit :
    (scalarOnly.busy = false ∧ scalarOnly.params.hasPacked = false) ∧
      State.reset.busy = false ∧ State.reset.params.hasPacked = true := by decide

theorem witness_NegvOfEmptyBufferIsNoOp : State.reset.busy = false ∧ State.reset.len = 0 := by decide

theorem witness_NegvStartsTheSequencer :
    (ready.busy = false ∧ ready.len ≠ 0) ∧
      { ready with src := 1, dst := 1, len := 0xFFFFFFFF }.len ≠ 0 := by decide

theorem witness_CommandFrame : Instr.snegQ7 ≠ .negv ∧ Instr.negv = .negv := by decide

/-- A block's turn in a running `NEGV`. -/
def blockNext (j : Word) : State := { running j with turns := [.block] }

theorem witness_GroupStepEffect :
    let s := blockNext 0
    s.turns = .block :: [] ∧ s.busy = true ∧ s.seqMode = true ∧ s.seqJ.toNat < 4 * (s.len.toNat / 4) ∧
      ∀ i, i < 4 → memAdmit s.params (s.src + s.seqJ + BitVec.ofNat 32 i) = true ∧
        memAdmit s.params (s.dst + s.seqJ + BitVec.ofNat 32 i) = true := by decide

theorem witness_ScalarStepEffect :
    let s := blockNext 4
    (s.turns = .block :: [] ∧ s.busy = true ∧ 4 * (s.len.toNat / 4) ≤ s.seqJ.toNat ∧
      memAdmit s.params (s.src + s.seqJ) = true ∧ memAdmit s.params (s.dst + s.seqJ) = true) ∧
      { s with seqMode := false, seqJ := 0 }.seqMode = false := by decide

theorem witness_UnadmittedAccessIsStuck :
    let s := { blockNext 0 with params := { Params.atReset with admitted := [⟨0, 0x2003⟩] } }
    s.turns = .block :: [] ∧ s.busy = true ∧
      3 < (if s.seqMode = true ∧ s.seqJ.toNat < 4 * (s.len.toNat / 4) then 4 else 1) ∧
      memAdmit s.params (s.dst + s.seqJ + BitVec.ofNat 32 3) = false := by decide

theorem witness_StopsOnlyWhenStuckAndAlone :
    let s := { running 0 with params := { Params.atReset with admitted := [] } }
    s.turns = [] ∧ s.host = [] ∧ s.busy = true ∧ sequencerStep s = none ∧ step s = .fault .stuckUnadmittedAccess :=
  ⟨rfl, rfl, rfl, rfl, rfl⟩

theorem witness_AdmissionExcludesTheWindow :
    memAdmit Params.atReset 0x00000100 = true ∧ memAdmit Params.atReset 0x000000FF = false ∧
      memAdmit Params.atReset 0xFFFFFFFF = true := by decide

theorem witness_GroupAccessIsLittleEndian :
    (3 : Nat) < 4 ∧ ∀ i, i < 4 → (0x2004 : Addr) ≠ 0x2000 + BitVec.ofNat 32 i := by decide

theorem inv_running (j : Word) (h : j.toNat < 7) (h4 : j.toNat < 4 → j = 0) : (running j).Inv where
  memCanonical := rfl
  errCodeLegal := Nat.zero_le _
  errMatchesCode := ⟨fun _ => rfl, fun _ => rfl⟩
  packedNeedsUnit := fun _ => rfl
  modeNeedsUnit := fun _ => rfl
  indexBelowLen := fun _ => h
  groupIndexAligned := by
    intro _ hg
    simp only [selectsGroup, Bool.and_eq_true, decide_eq_true_eq] at hg
    have h7 : groupEnd (running j) = 4 := by simp [groupEnd, running, ready]
    have : j = 0 := h4 (h7 ▸ hg.2)
    subst this
    rfl

theorem inv_scalarOnly : scalarOnly.Inv where
  memCanonical := rfl
  errCodeLegal := Nat.zero_le _
  errMatchesCode := ⟨fun _ => rfl, fun _ => rfl⟩
  packedNeedsUnit := nofun
  modeNeedsUnit := nofun
  indexBelowLen := nofun
  groupIndexAligned := nofun

theorem witness_NoPackedUnitMeansScalarSteps : scalarOnly.Inv ∧ scalarOnly.params.hasPacked = false :=
  ⟨inv_scalarOnly, rfl⟩

theorem admitted_ready : ready.buffersAdmitted := by
  have h : ∀ j, j < 7 → memAdmit ready.params (bufferAddr ready.src j) = true ∧
      memAdmit ready.params (bufferAddr ready.dst j) = true := by decide
  exact fun j hj => h j hj

theorem legal_ready : ready.buffersLegal := by
  refine ⟨by decide, by decide, .inr (.inr (by decide))⟩

/-- For NegvEndState, NegvStepCounts and StrategiesAreEquivalent. -/
theorem witness_NegvEndState :
    ∃ s1 w c, ready.busy = false ∧ ready.len ≠ 0 ∧ ready.buffersLegal ∧ ready.buffersAdmitted ∧
      exec .negv ready = .next s1 ∧ exec .negv { ready with packedEn := true } = .next w ∧
      exec .negv { ready with packedEn := false } = .next c :=
  ⟨_, _, _, rfl, by decide, legal_ready, admitted_ready, rfl, rfl, rfl⟩

theorem witness_StartBeginsProgress :
    ∃ t, ready.busy = false ∧ ready.len ≠ 0 ∧ exec .negv ready = .next t ∧ t.clean :=
  ⟨nextOf ready (exec .negv ready), rfl, by decide, rfl, rfl⟩

theorem progress_running : NegvProgress sample (running 0) where
  legal := legal_ready
  indexInRange := by decide
  done := fun j hj => absurd hj (Nat.not_lt_zero j)
  todo := fun _ _ _ => rfl

theorem witness_EveryStepKeepsNegvProgress :
    ∃ t, (running 0).Inv ∧ (running 0).busy = true ∧ NegvProgress sample (running 0) ∧
      (running 0).turns.head? ≠ some .reset ∧ step (running 0) = .next t ∧ t.clean :=
  ⟨nextOf ready (step (running 0)), inv_running 0 (by decide) (fun _ => rfl), rfl, progress_running, nofun, rfl, rfl⟩

theorem witness_EveryStepKeepsTheInvariant : ∃ t, (running 0).Inv ∧ step (running 0) = .next t :=
  ⟨_, inv_running 0 (by decide) (fun _ => rfl), rfl⟩

theorem witness_CapIsConstant : ∃ t, step (running 0) = .next t := ⟨_, rfl⟩

/-- `BUSY` rises by a `NEGV`, and falls by the last sequencer step. -/
theorem witness_OnlyNegvSetsBusy :
    (∃ t, step (hostDoes (cmd .negv) ready) = .next t ∧ ready.busy = false ∧ t.busy = true) ∧
      ∃ t, step (running 6) = .next t ∧ (running 6).busy = true ∧ t.busy = false :=
  ⟨⟨nextOf ready (step (hostDoes (cmd .negv) ready)), rfl, rfl, by decide⟩,
    ⟨nextOf ready (step (running 6)), rfl, rfl, by decide⟩⟩

theorem witness_OnlyDirectCommandsWriteRes :
    ∃ t, step (hostDoes (cmd .snegQ7) (withOpa 1)) = .next t ∧ t.res ≠ (withOpa 1).res :=
  ⟨nextOf ready (step (hostDoes (cmd .snegQ7) (withOpa 1))), rfl, by decide⟩

theorem witness_OperandsAreFixedWhileBusy :
    ∃ t, step (hostDoes (wr .src 5) (running 0)) = .next t ∧ (running 0).busy = true ∧
      (hostDoes (wr .src 5) (running 0)).turns.head? ≠ some .reset :=
  ⟨_, rfl, rfl, by decide⟩

/-- The running `NEGV` at element 4, with a byte already in the destination. -/
def runningOver : State := { running 4 with mem := sample ++ [(0x2004, 0x00)] }

theorem inv_runningOver : runningOver.Inv where
  memCanonical := rfl
  errCodeLegal := Nat.zero_le _
  errMatchesCode := ⟨fun _ => rfl, fun _ => rfl⟩
  packedNeedsUnit := fun _ => rfl
  modeNeedsUnit := fun _ => rfl
  indexBelowLen := fun _ => by decide
  groupIndexAligned := by
    intro _ hg
    exact absurd hg (by decide)

/-- A byte changes by the sequencer, and by a host's store. -/
theorem witness_MemoryChangesOnlyInTheDestination :
    (∃ t, runningOver.Inv ∧ step runningOver = .next t ∧ memByte t.mem 0x2004 ≠ memByte runningOver.mem 0x2004) ∧
      ∃ t, ready.Inv ∧ step { ready with host := [.memStore 0x1000 0x09] } = .next t ∧
        memByte t.mem 0x1000 ≠ memByte ready.mem 0x1000 :=
  ⟨⟨nextOf ready (step runningOver), inv_runningOver, rfl, by decide⟩,
    ⟨nextOf ready (step { ready with host := [.memStore 0x1000 0x09] }),
      ⟨rfl, Nat.zero_le _, ⟨fun _ => rfl, fun _ => rfl⟩, fun _ => rfl, nofun, nofun, nofun⟩, rfl, by decide⟩⟩

theorem witness_FaultsGrowOnly :
    (∃ t, step { running 0 with faults := ⟨true, true, true, true⟩ } = .next t) ∧
      ({ State.reset with faults := ⟨false, false, true, false⟩ } : State).faults ≠ FaultSet.empty := ⟨⟨_, rfl⟩, by decide⟩

theorem witness_OnlyRegisterWritesTouchErrors :
    ∃ t, step (hostDoes (cmdRaw 0) State.reset) = .next t ∧ (t.err ≠ State.reset.err ∧ t.errCode ≠ State.reset.errCode) :=
  ⟨nextOf ready (step (hostDoes (cmdRaw 0) State.reset)), rfl, by decide, by decide⟩

theorem witness_FirstErrorCodeStays :
    ∃ t, step (hostDoes (wr .opa 0) { running 0 with err := true, errCode := 1 }) = .next t ∧
      ({ running 0 with err := true, errCode := 1 } : State).err = true ∧ t.err = true :=
  ⟨nextOf ready (step (hostDoes (wr .opa 0) { running 0 with err := true, errCode := 1 })), rfl, rfl, by decide⟩

/-- The offsets on both sides of where the clauses meet. -/
theorem witness_WritesWhileBusyAreRefused :
    (running 0).busy = true ∧ ∀ off ∈ [0x00, 0x04, 0x08, 0x0C, 0x10, 0x14, 0x18, 0x1C, 0x20, 0x24, 0xFC],
      off % 4 = 0 ∧ off < 0x100 := by decide

/-- For CfgReadAndWrite, OperandRegistersReadAndWrite, ReadOnlyAndReservedOffsets and RegisterReadsHaveNoSideEffect. -/
theorem witness_PortAccesses : State.reset.busy = false ∧ (0x24 : Nat) < 0x100 ∧ 0x24 % 4 = 0 ∧ 0xFC < 0x100 ∧ 0xFC % 4 = 0 := by
  decide

/-- Each way an access can be bad: its size, its place, its range. -/
theorem witness_BadRegisterAccessIsMarked :
    ∀ a ∈ [(0x10, 1), (0x10, 2), (0x12, 4), (0x100, 4), (0xFC, 8)], ¬ (a.2 = 4 ∧ a.1 % 4 = 0 ∧ a.1 < 0x100) := by decide

/-- For HostStoreWritesAndMarksRace and HostLoadReadsAndMarksRace: the first address past the window, buffers that end exactly
at `2^32`, and buffers that wrap, whose last byte lies at address 0x100. -/
theorem witness_HostAccesses :
    let s := { running 0 with src := 0xFFFFFFF9, dst := 0xFFFFFFF9 }
    let u := { running 0 with src := 0xFA, dst := 0xFFFFFFFF, len := 0x102 }
    ¬ (s.params.blockPage.toNat * 256 ≤ (0x100 : Addr).toNat ∧ (0x100 : Addr).toNat < s.params.blockPage.toNat * 256 + 256) ∧
      s.src.toNat + s.len.toNat ≤ 2 ^ 32 ∧ s.dst.toNat + s.len.toNat ≤ 2 ^ 32 ∧
      (u.busy = true ∧ 0x101 < u.len.toNat ∧ (0x100 : Addr) = bufferAddr u.dst 0x101) := by decide

theorem witness_ByteAccessInTheWindowIsBad :
    State.reset.params.blockPage.toNat * 256 ≤ (0xFF : Addr).toNat ∧
      (0xFF : Addr).toNat < State.reset.params.blockPage.toNat * 256 + 256 := by decide

theorem witness_ResetEventEffect : ({ running 0 with turns := [.reset] } : State).turns = .reset :: [] := rfl

end Sys2Proof.Tests
end

section
/-!
SUPPORT. What one host transaction can do to a state, as one relation, and the sequencer step's frame and progress. The
proofs of this family split along these and `step_cases`.
-/

namespace Sys2Proof.Machine

/-! ## The command words -/

theorem toNat_fieldRsvd (v : Word) : (fieldRsvd v).toNat = v.toNat / 256 := by
  have := v.isLt
  simp [fieldRsvd, BitVec.extractLsb'_toNat, Nat.shiftRight_eq_div_pow]
  omega

theorem toNat_fieldOp (v : Word) : (fieldOp v).toNat = v.toNat % 256 := by
  simp [fieldOp, BitVec.extractLsb'_toNat]

theorem toNat_of_opcodeMap {op : Byte} {i : Instr} (h : opcodeMap op = some i) : op.toNat = (encode i).toNat := by
  unfold opcodeMap at h
  split_ifs at h <;> (cases h; subst op; rfl)

/-- A word that decodes is the command's own word, on all 32 bits (30_encoding.md R72, R75). -/
theorem eq_encode_of_decodeWord {v : Word} {i : Instr} (h : decodeWord v = .ok i) : v = encode i := by
  unfold decodeWord at h
  split at h
  case isTrue => cases h
  case isFalse hr =>
    have hrsvd : v.toNat / 256 = 0 := by rw [← toNat_fieldRsvd, not_not.mp hr]; rfl
    cases hmap : opcodeMap (fieldOp v) with
    | none => simp [hmap] at h
    | some j =>
      obtain rfl : j = i := by simpa [hmap] using h
      have hop : v.toNat % 256 = (encode j).toNat := by rw [← toNat_fieldOp, toNat_of_opcodeMap hmap]
      exact BitVec.eq_of_toNat_eq (by omega)

/-- The words of the direct commands are 1 to 4 (30_encoding.md R75). -/
theorem encode_direct_range {i : Instr} (h : i ≠ .negv) : 1 ≤ (encode i).toNat ∧ (encode i).toNat ≤ 4 := by
  cases i with
  | negv => exact absurd rfl h
  | snegQ7 | pnegB4 | psatB4 | pnegsB4 => decide

theorem decodeWord_encode (i : Instr) : decodeWord (encode i) = .ok i := by cases i <;> rfl

/-! ## Register accesses -/

theorem regAccessLegal_iff (off size : Nat) :
    regAccessLegal off size = true ↔ size = 4 ∧ off % 4 = 0 ∧ off < 0x100 := by
  simp [regAccessLegal, and_assoc]

theorem regAt_eq_cmd_iff (off : Nat) : regAt off = .cmd ↔ off = 0x00 := by
  unfold regAt
  split_ifs <;> simp_all

theorem regAt_reserved {off : Nat} (h : 0x24 ≤ off) : regAt off = .reserved := by
  unfold regAt
  repeat rw [if_neg (by omega)]

/-- A read of the legal form returns the register's value and does nothing else (10_state.md R20). -/
theorem hostAction_regRead (s : State) (off : Nat) (h4 : off % 4 = 0) (hlt : off < 0x100) :
    hostAction (.regRead off 4) s = .next (s.setReadData (some (regValue (regAt off) s))) :=
  if_pos ((regAccessLegal_iff off 4).mpr ⟨rfl, h4, hlt⟩)

/-- A write of the legal form is the `RegWrite` of its register (10_state.md R20). -/
theorem hostAction_regWrite (s : State) (off : Nat) (v : Word) (h4 : off % 4 = 0) (hlt : off < 0x100) :
    hostAction (.regWrite off 4 v) s = regWrite (regAt off) v s :=
  if_pos ((regAccessLegal_iff off 4).mpr ⟨rfl, h4, hlt⟩)

theorem badRegAccess_eq (s : State) :
    badRegAccess s = { s with faults := { s.faults with badRegAccess := true } } := by
  simp [badRegAccess, markFaults_eq, FaultSet.union, FaultSet.empty]

theorem badRegRead_eq (s : State) :
    badRegRead s = { s with
      faults := { s.faults with badRegAccess := true }
      readData := some (Config.badReadValue s.draws), draws := s.draws + 1 } := by
  rw [badRegRead, badRegAccess_eq]
  rfl

/-! ## The words the host reads -/

theorem statusWord_getLsbD_zero (s : State) : (statusWord s).getLsbD 0 = s.busy := by
  rw [statusWord, BitVec.getLsbD_append]
  simp [bit]

theorem statusWord_getLsbD_one (s : State) : (statusWord s).getLsbD 1 = s.err := by
  rw [statusWord, BitVec.getLsbD_append, BitVec.getLsbD_append]
  simp [bit]

/-- Bits [3:2] of `STATUS`, the two zeros above `ERR`. -/
theorem statusWord_zeros (s : State) : (statusWord s).extractLsb' 2 2 = 0 := by
  rw [statusWord, BitVec.extractLsb'_append_eq_of_le (by decide), BitVec.extractLsb'_append_eq_of_le (by decide)]
  exact BitVec.extractLsb'_append_eq_right

theorem statusWord_errCode (s : State) : (statusWord s).extractLsb' 4 4 = s.errCode := by
  rw [statusWord, BitVec.extractLsb'_append_eq_of_le (by decide), BitVec.extractLsb'_append_eq_of_le (by decide),
    BitVec.extractLsb'_append_eq_of_le (by decide)]
  exact BitVec.extractLsb'_append_eq_right

/-- Bits [31:8] of `STATUS`. -/
theorem statusWord_reserved (s : State) : (statusWord s).extractLsb' 8 24 = 0 := by
  rw [statusWord, BitVec.extractLsb'_append_eq_of_le (by decide), BitVec.extractLsb'_append_eq_of_le (by decide),
    BitVec.extractLsb'_append_eq_of_le (by decide)]
  exact BitVec.extractLsb'_append_eq_left

theorem cfgWord_eq (s : State) : cfgWord s = if s.packedEn then 1 else 0 := by
  cases h : s.packedEn <;> simp [cfgWord, bit, h]

theorem capWord_eq (s : State) : capWord s = if s.params.hasPacked then 1 else 0 := by
  cases h : s.params.hasPacked <;> simp [capWord, bit, h]

theorem pollRound_eq (s : State) :
    pollRound s = { s with
      readData := some (statusWord s), host := if s.busy then .poll :: s.host else s.host } := by
  simp only [pollRound, statusWord_getLsbD_zero]
  split <;> rfl

/-! ## What a host transaction does -/

/-- What the transaction `a` can leave of `s`. -/
inductive HostEffect (a : HostAction) (s : State) : State → Prop where
  | ignored (off : Nat) (v : Word) : a = .regWrite off 4 v → HostEffect a s s
  | raised (off : Nat) (v : Word) (c : ErrorCode) : a = .regWrite off 4 v → HostEffect a s (raiseError c s)
  | cleared (off : Nat) (v : Word) : a = .regWrite off 4 v → HostEffect a s (clearError s)
  | accepted (off : Nat) (v : Word) (t : State) : a = .regWrite off 4 v → s.busy = false →
      AcceptedWrite (regAt off) v s t → HostEffect a s t
  | answered (f : FaultSet) (u : Option Word) (n : Nat) : HostEffect a s (((markFaults f s).setReadData u).setDraws n)
  | stored (addr : Addr) (b : Byte) : a = .memStore addr b → inWindow s.params addr = false →
      HostEffect a s (memWrite1 addr b (markRace (hostWriteRaces addr s) s))
  | polled : a = .poll → HostEffect a s (pollRound s)

/-- `hostAction_cases` and `regWrite_cases` together: a host transaction has one of these effects. -/
theorem hostAction_effect {a : HostAction} {s t : State} (h : hostAction a s = .next t) : HostEffect a s t := by
  obtain ⟨u, hu, hcases⟩ := hostAction_cases a s
  obtain rfl : u = t := by simpa [hu] using h
  rcases hcases with ⟨off, v, ha, _, _, hw⟩ | ⟨f, d, n, rfl⟩ | ⟨addr, b, ha, hout, rfl⟩ | ⟨ha, rfl⟩
  · obtain ⟨w, hw', heffect⟩ := regWrite_cases (regAt off) v s
    obtain rfl : w = u := by simpa [hw'] using hw
    rcases heffect with rfl | ⟨c, rfl⟩ | rfl | ⟨hb, hacc⟩
    · exact .ignored off v ha
    · exact .raised off v c ha
    · exact .cleared off v ha
    · exact .accepted off v w ha hb hacc
  · exact .answered f d n
  · exact .stored addr b ha hout
  · exact .polled ha

/-! ## The sequencer step -/

/-- A sequencer step changes the memory, LG, `SEQ_J` and `BUSY` only (42_block_kernel.md R135, R136). -/
theorem sequencerStep_frame {s t : State} (h : sequencerStep s = some t) :
    t = { s with mem := t.mem, lg := t.lg, draws := t.draws, seqJ := t.seqJ, busy := t.busy } := by
  obtain ⟨_, _, ⟨_, rfl⟩ | ⟨_, rfl⟩⟩ := sequencerStep_cases s t h
  · rw [groupStep_eq]
  · rw [scalarStep_eq]

theorem sequencerStep_params {s t : State} (h : sequencerStep s = some t) : t.params = s.params := by
  rw [sequencerStep_frame h]

theorem sequencerStep_res {s t : State} (h : sequencerStep s = some t) : t.res = s.res := by
  rw [sequencerStep_frame h]

theorem sequencerStep_faults {s t : State} (h : sequencerStep s = some t) : t.faults = s.faults := by
  rw [sequencerStep_frame h]

/-- A sequencer step advances `SEQ_J`, and `BUSY` falls exactly when it reaches `LEN` (42_block_kernel.md R137). -/
theorem sequencerStep_busy {s t : State} (h : sequencerStep s = some t) :
    s.busy = true ∧ t.busy = (t.seqJ != s.len) := by
  obtain ⟨hb, _, ⟨_, rfl⟩ | ⟨_, rfl⟩⟩ := sequencerStep_cases s t h
  · simp [groupStep_eq, hb]
  · simp [scalarStep_eq, hb]

end Sys2Proof.Machine
end

section
/-!
SUPPORT. The machine's invariant: each operation keeps it, so every host transaction, sequencer step and reset does.
-/

namespace Sys2Proof.Machine

section
variable {s t : State} {a : HostAction}

/-- The invariant does not speak of these fields. -/
theorem State.Inv.frame (h : s.Inv) {opa res src dst lg : Word} {f : FaultSet} {n : Nat} {d : Option Word}
    {q : List HostAction} {ts : List Turn} :
    State.Inv { s with
      opa := opa, res := res, src := src, dst := dst, lg := lg, faults := f, draws := n, readData := d, host := q,
      turns := ts } := { h with }

theorem State.Inv.setMem (h : s.Inv) {m : Memory} (hm : Memory.wf m = true) : (s.setMem m).Inv :=
  { h with memCanonical := hm }

/-- Any legal code that matches `ERR` keeps the invariant (10_state.md R24, 60_exceptions.md R151). -/
theorem State.Inv.setError (h : s.Inv) {e : Bool} {c : BitVec 4} (hc : c.toNat ≤ 3) (he : e = false ↔ c = 0) :
    ((s.setErrCode c).setErr e).Inv :=
  { h with errCodeLegal := hc, errMatchesCode := he }

theorem errorCodeBits_legal (c : ErrorCode) : (errorCodeBits c).toNat ≤ 3 ∧ errorCodeBits c ≠ 0 := by
  cases c <;> decide

theorem State.Inv.raiseError (h : s.Inv) (c : ErrorCode) : (raiseError c s).Inv := by
  obtain ⟨hle, hne⟩ := errorCodeBits_legal c
  refine h.setError ?_ ?_
  · split
    · exact h.errCodeLegal
    · exact hle
  · cases he : s.err with
    | false => simpa using hne
    | true => simpa [he] using h.errMatchesCode

theorem State.Inv.clearError (h : s.Inv) : (clearError s).Inv :=
  h.setError (Nat.zero_le 3) (iff_of_true rfl rfl)

/-- `PACKED_EN` stays hardwired to 0 without the unit (10_state.md R26). -/
theorem State.Inv.setPackedEn (h : s.Inv) (v : Bool) : (s.setPackedEn (v && s.params.hasPacked)).Inv :=
  { h with packedNeedsUnit := fun hp => (Bool.and_eq_true_iff.mp hp).2 }

/-- `LEN` is written while no index is held against it. -/
theorem State.Inv.setLen (h : s.Inv) (hb : s.busy = false) (v : Word) : (s.setLen v).Inv :=
  { h with
    indexBelowLen := fun hbusy => absurd hbusy (by simp [hb])
    groupIndexAligned := fun hbusy => absurd hbusy (by simp [hb]) }

/-- A start sets `SEQ_J` to 0 below a non-zero `LEN`, and takes its mode from `PACKED_EN` (42_block_kernel.md R133). -/
theorem State.Inv.startNegv (h : s.Inv) : (startNegv s).Inv := by
  by_cases hl : s.len = 0
  · rwa [startNegv_empty s hl]
  · rw [startNegv_nonempty s hl]
    have hpos : s.len.toNat ≠ 0 := fun h0 => hl (BitVec.eq_of_toNat_eq h0)
    exact { h with
      modeNeedsUnit := h.packedNeedsUnit
      indexBelowLen := fun _ => Nat.pos_of_ne_zero hpos
      groupIndexAligned := fun _ _ => rfl }

theorem State.Inv.resetEvent (h : s.Inv) : (resetEvent s).Inv where
  memCanonical := h.memCanonical
  errCodeLegal := Nat.zero_le 3
  errMatchesCode := iff_of_true rfl rfl
  packedNeedsUnit := nofun
  modeNeedsUnit := nofun
  indexBelowLen := nofun
  groupIndexAligned := nofun

/-- After the index has advanced by `k` within `LEN` it lies below `LEN` exactly while it differs from it. -/
theorem advanced_index {j len k : Word} (hle : j.toNat + k.toNat ≤ len.toNat) :
    (j + k).toNat = j.toNat + k.toNat ∧ (j + k ≠ len → (j + k).toNat < len.toNat) := by
  have := len.isLt
  have hsum : (j + k).toNat = j.toNat + k.toNat := by
    rw [BitVec.toNat_add]
    omega
  refine ⟨hsum, fun hne => ?_⟩
  have : (j + k).toNat ≠ len.toNat := fun he => hne (BitVec.eq_of_toNat_eq he)
  omega

/-- A group step takes the next multiple of 4, and ends no later than the last whole group (42_block_kernel.md R138). -/
theorem State.Inv.groupStep (h : s.Inv) (hb : s.busy = true) (hg : selectsGroup s = true) : (groupStep s).Inv := by
  obtain ⟨_, hlt⟩ := (selectsGroup_iff s).mp hg
  have halign := h.groupIndexAligned hb hg
  have hfour : (4 : Word).toNat = 4 := rfl
  obtain ⟨hsum, hbelow⟩ := advanced_index (j := s.seqJ) (len := s.len) (k := 4) (by omega)
  rw [groupStep_eq]
  exact { h with
    memCanonical := Memory.wf_memWrite4 s _ _ h.memCanonical
    indexBelowLen := fun hbusy => hbelow (by simpa [hb] using hbusy)
    groupIndexAligned := fun _ _ => by
      change (s.seqJ + 4).toNat % 4 = 0
      omega }

/-- A scalar step is taken in the scalar strategy or past the last whole group, so no group step follows it
(42_block_kernel.md R138). -/
theorem State.Inv.scalarStep (h : s.Inv) (hb : s.busy = true) (hg : selectsGroup s = false) : (scalarStep s).Inv := by
  have hlt := h.indexBelowLen hb
  obtain ⟨hsum, hbelow⟩ := advanced_index (j := s.seqJ) (len := s.len) (k := 1) hlt
  rw [scalarStep_eq]
  exact { h with
    memCanonical := Memory.wf_memSet _ _ _ h.memCanonical
    indexBelowLen := fun hbusy => hbelow (by simpa [hb] using hbusy)
    groupIndexAligned := fun _ hnext => by
      obtain ⟨hmode, hj⟩ := (selectsGroup_iff _).mp hnext
      rcases (selectsGroup_eq_false_iff s).mp hg with hscalar | hpast
      · exact absurd hmode (by simp [hscalar])
      · simp only [hsum] at hj
        omega }

theorem State.Inv.sequencerStep (h : s.Inv) (hstep : sequencerStep s = some t) : t.Inv := by
  obtain ⟨hb, _, ⟨hg, rfl⟩ | ⟨hg, rfl⟩⟩ := sequencerStep_cases s t hstep
  · exact h.groupStep hb hg
  · exact h.scalarStep hb hg

theorem State.Inv.acceptedWrite {r : Reg} {v : Word} (h : s.Inv) (hb : s.busy = false) (hw : AcceptedWrite r v s t) :
    t.Inv := by
  cases hw with
  | start => exact h.startNegv
  | cfg => exact h.setPackedEn _
  | len => exact h.setLen hb v
  | direct | opa | src | dst => exact h.frame

theorem State.Inv.hostEffect (h : s.Inv) (he : HostEffect a s t) : t.Inv := by
  cases he with
  | ignored => exact h
  | raised _ _ c => exact h.raiseError c
  | cleared => exact h.clearError
  | accepted _ _ _ _ hb hw => exact h.acceptedWrite hb hw
  | answered => exact h.frame
  | stored addr b => exact h.frame.setMem (Memory.wf_memSet _ addr b h.memCanonical)
  | polled => rw [pollRound_eq]; exact h.frame

end

/-- Settles O34: the reset, the sequencer step, the host's transaction and the passing turn each keep the invariant. -/
theorem everyStepKeepsTheInvariant : Obligations.EveryStepKeepsTheInvariant := by
  intro s t h hstep
  rcases step_cases s t hstep with ⟨_, rfl⟩ | ⟨_, hseq | ⟨a, rest, _, hhost⟩ | rfl⟩
  · exact State.Inv.resetEvent h.frame
  · exact State.Inv.sequencerStep h.frame hseq
  · exact State.Inv.hostEffect h.frame (hostAction_effect hhost)
  · exact h.frame

end Sys2Proof.Machine
end

section
/-!
SUPPORT. The rules of `CAP`, `BUSY`, `RES` and `FAULTS` under every step: one lemma for a host transaction and one for
the sequencer, put together along `step_cases`.
-/

namespace Sys2Proof.Machine

/-! ## CAP -/

theorem HostEffect.params_eq {a : HostAction} {s t : State} (he : HostEffect a s t) : t.params = s.params := by
  cases he with
  | accepted _ _ _ _ _ hw => cases hw with
    | start => exact startNegv_params s
    | direct | cfg | opa | src | dst | len => rfl
  | polled => rw [pollRound_eq]
  | ignored | raised | cleared | answered | stored => rfl

/-- The parameters are constants (00_scope.md R7, R9). -/
theorem step_params {s t : State} (h : step s = .next t) : t.params = s.params := by
  rcases step_cases s t h with ⟨_, rfl⟩ | ⟨_, hseq | ⟨a, rest, _, hhost⟩ | rfl⟩
  · rfl
  · exact (sequencerStep_params hseq).trans (takeTurn_params s)
  · exact (hostAction_effect hhost).params_eq
  · rfl

/-- Settles O36: the parameters stay, and the port at 0x0C answers `capWord` and ignores a write. -/
theorem capIsConstant : Obligations.CapIsConstant := by
  refine ⟨fun s t => step_params, fun s v => ⟨?_, rfl⟩⟩
  rw [← capWord_eq]
  rfl

/-! ## BUSY -/

/-- A start that is not empty is the only host transaction that changes `BUSY` (10_state.md R22). -/
theorem HostEffect.busy_eq_or_starts {a : HostAction} {s t : State} (he : HostEffect a s t) :
    t.busy = s.busy ∨ (s.busy = false ∧ s.len ≠ 0 ∧ a = .regWrite 0x00 4 (encode .negv)) := by
  cases he with
  | accepted off v _ ha hb hw => cases hw with
    | start hr hd =>
      by_cases hl : s.len = 0
      · exact .inl (by rw [startNegv_empty s hl])
      · rw [ha, (regAt_eq_cmd_iff off).mp hr, eq_encode_of_decodeWord hd]
        exact .inr ⟨hb, hl, rfl⟩
    | direct | cfg | opa | src | dst | len => exact .inl rfl
  | polled => exact .inl (by rw [pollRound_eq])
  | ignored | raised | cleared | answered | stored => exact .inl rfl

/-- Settles O37: a step raises `BUSY` through the host's start alone, and drops it by the reset or the sequencer. -/
theorem onlyNegvSetsBusy : Obligations.OnlyNegvSetsBusy := by
  intro s t h
  rcases step_cases s t h with ⟨hreset, rfl⟩ | ⟨_, hseq | ⟨a, rest, hqueue, hhost⟩ | rfl⟩
  · exact ⟨fun _ => nofun, fun _ _ => .inl hreset⟩
  · obtain ⟨hbusy, hfall⟩ := sequencerStep_busy hseq
    refine ⟨fun hidle => absurd hbusy (by simp [hidle]), fun _ hidle => .inr ⟨hseq, ?_⟩⟩
    simpa [hidle] using hfall
  · rcases (hostAction_effect hhost).busy_eq_or_starts with hsame | ⟨hidle, hlen, rfl⟩
    · have hsame : t.busy = s.busy := hsame
      exact ⟨fun h0 h1 => by simp [hsame, h0] at h1, fun h1 h0 => by simp [hsame, h1] at h0⟩
    · have hidle : s.busy = false := hidle
      exact ⟨fun _ _ => ⟨hlen, rest, hqueue⟩, fun hbusy => absurd hbusy (by simp [hidle])⟩
  · exact ⟨fun h0 h1 => by simp [h0] at h1, fun h1 h0 => by simp [h1] at h0⟩

/-! ## RES -/

/-- An accepted direct command is the only host transaction that changes `RES` (10_state.md R31). -/
theorem HostEffect.res_eq_or_direct {a : HostAction} {s t : State} (he : HostEffect a s t) :
    t.res = s.res ∨ (s.busy = false ∧ ∃ i, i ≠ .negv ∧ a = .regWrite 0x00 4 (encode i)) := by
  cases he with
  | accepted off v _ ha hb hw => cases hw with
    | direct i w hr hd hi =>
      rw [ha, (regAt_eq_cmd_iff off).mp hr, eq_encode_of_decodeWord hd]
      exact .inr ⟨hb, i, hi, rfl⟩
    | start => exact .inl (startNegv_res s)
    | cfg | opa | src | dst | len => exact .inl rfl
  | polled => exact .inl (by rw [pollRound_eq])
  | ignored | raised | cleared | answered | stored => exact .inl rfl

/-- Settles O38: of the moves of `step_cases`, the reset and the host's direct command alone write `RES`. -/
theorem onlyDirectCommandsWriteRes : Obligations.OnlyDirectCommandsWriteRes := by
  intro s t h hres
  rcases step_cases s t h with ⟨hreset, _⟩ | ⟨_, hseq | ⟨a, rest, hqueue, hhost⟩ | rfl⟩
  · exact .inl hreset
  · exact absurd (sequencerStep_res hseq) hres
  · rcases (hostAction_effect hhost).res_eq_or_direct with hsame | ⟨hidle, i, hi, rfl⟩
    · exact absurd hsame hres
    · exact .inr ⟨hidle, encode i, rest, hqueue, encode_direct_range hi⟩
  · exact absurd rfl hres

/-! ## FAULTS -/

/-- A host transaction adds a set of reasons to `FAULTS`, or none (10_state.md R43). -/
theorem HostEffect.faults_eq_union {a : HostAction} {s t : State} (he : HostEffect a s t) :
    ∃ f, t.faults = s.faults.union f := by
  have unmarked : ∃ f, s.faults = s.faults.union f := ⟨FaultSet.empty, (FaultSet.union_empty _).symm⟩
  cases he with
  | accepted _ _ _ _ _ hw => cases hw with
    | start =>
      by_cases hl : s.len = 0
      · rwa [startNegv_empty s hl]
      · exact ⟨rangeFaults s, by rw [startNegv_nonempty s hl]⟩
    | direct | cfg | opa | src | dst | len => exact unmarked
  | answered f => exact ⟨f, rfl⟩
  | stored => exact ⟨_, rfl⟩
  | polled => rwa [pollRound_eq]
  | ignored | raised | cleared => exact unmarked

/-- A step, a reset included, adds a set of reasons to `FAULTS`, or none (10_state.md R43). -/
theorem step_faults_eq_union {s t : State} (h : step s = .next t) : ∃ f, t.faults = s.faults.union f := by
  have unmarked : ∃ f, s.faults = s.faults.union f := ⟨FaultSet.empty, (FaultSet.union_empty _).symm⟩
  rcases step_cases s t h with ⟨_, rfl⟩ | ⟨_, hseq | ⟨a, rest, _, hhost⟩ | rfl⟩
  · exact unmarked
  · rwa [sequencerStep_faults hseq]
  · exact (hostAction_effect hhost).faults_eq_union
  · exact unmarked

/-- Settles O41: `FAULTS` after a step is a union with `FAULTS` before it. -/
theorem faultsGrowOnly : Obligations.FaultsGrowOnly := by
  refine ⟨fun _ => rfl, fun s t h => ?_, fun _ hfaults ⟨hclean, _⟩ => hfaults hclean⟩
  obtain ⟨f, hf⟩ := step_faults_eq_union h
  simp +contextual [hf, FaultSet.union]

end Sys2Proof.Machine
end

section
/-!
SUPPORT. What the register port answers and writes, offset by offset, and a host's turn that runs a command.
-/

namespace Sys2Proof.Machine

/-! ## The registers -/

/-- On an idle block a write that `refuseWhileBusy` guards runs (60_exceptions.md R155). -/
theorem guardedWrite_idle {s : State} {o : Host.Outcome State Fault Refusal} (run : State → State)
    (hb : s.busy = false) (ho : o = .next (refuseWhileBusy run s)) : o = .next (run s) := by
  rw [ho, refuseWhileBusy_idle run s hb]

/-- Settles O46: the read returns `statusWord`, and the write is `clearError` or nothing. -/
theorem statusReadAndClear : Obligations.StatusReadAndClear := by
  refine fun s => ⟨⟨statusWord s, rfl, statusWord_getLsbD_zero s, statusWord_getLsbD_one s, statusWord_zeros s,
    statusWord_errCode s, statusWord_reserved s⟩, fun v => ?_⟩
  rw [← clearError_eq]
  rfl

/-- Settles O47: the read returns `cfgWord`, and an idle block accepts the write. -/
theorem cfgReadAndWrite : Obligations.CfgReadAndWrite := by
  refine fun s => ⟨?_, fun v hb => guardedWrite_idle _ hb rfl⟩
  rw [← cfgWord_eq]
  rfl

/-- Settles O48: each read returns its field, and an idle block accepts each write. -/
theorem operandRegistersReadAndWrite : Obligations.OperandRegistersReadAndWrite := fun _ =>
  ⟨rfl, rfl, rfl, rfl, fun v hb =>
    ⟨guardedWrite_idle (·.setOpa v) hb rfl, guardedWrite_idle (·.setSrc v) hb rfl,
      guardedWrite_idle (·.setDst v) hb rfl, guardedWrite_idle (·.setLen v) hb rfl⟩⟩

/-- Settles O49: every offset from 0x24 is the reserved register. -/
theorem readOnlyAndReservedOffsets : Obligations.ReadOnlyAndReservedOffsets := by
  refine fun s => ⟨rfl, rfl, fun _ => rfl, fun off hlo hlt h4 => ⟨?_, fun v => ?_⟩⟩
  · rw [hostAction_regRead s off h4 hlt, regAt_reserved hlo]
    rfl
  · rw [hostAction_regWrite s off v h4 hlt, regAt_reserved hlo]
    rfl

/-! ## Accesses of a bad form -/

/-- Settles O51: the access fails the check of the legal form. -/
theorem badRegisterAccessIsMarked : Obligations.BadRegisterAccessIsMarked := by
  intro s off size v hbad
  rw [← regAccessLegal_iff] at hbad
  refine ⟨?_, Config.badReadValue s.draws, s.draws + 1, ?_⟩
  · rw [hostAction, if_neg hbad, badRegAccess_eq]
  · rw [hostAction, if_neg hbad, badRegRead_eq]

/-- Settles O54: a byte access in the window goes the way of a bad register access. -/
theorem byteAccessInTheWindowIsBad : Obligations.ByteAccessInTheWindowIsBad := by
  intro s a b hlo hhi
  have hin : inWindow s.params a = true := (inWindow_iff s.params a).mpr ⟨hlo, hhi⟩
  refine ⟨?_, Config.badReadValue s.draws, s.draws + 1, ?_⟩
  · rw [hostAction, hostStore, if_pos hin, badRegAccess_eq]
  · rw [hostAction, hostLoad, if_pos hin, badRegRead_eq]

/-! ## A command's turn -/

/-- A CMD write of a command's word to an idle block runs the command (30_encoding.md R74). -/
theorem hostAction_command {s : State} {v : Word} {i : Instr} (hb : s.busy = false) (hd : decodeWord v = .ok i) :
    hostAction (.regWrite 0x00 4 v) s = exec i s := by
  rw [hostAction_regWrite s 0x00 v rfl (by decide)]
  simp [regAt, regWrite, cmdWrite, hb, hd]

/-- With no turn laid down and no sequencer step enabled, a waiting transaction is taken (log 12). -/
theorem step_defaultHost {s : State} {a : HostAction} {rest : List HostAction} (ht : s.turns = [])
    (hq : sequencerStep s = none) (hh : s.host = a :: rest) : step s = hostAction a (s.setHost rest) := by
  simp [step, nextTurn, ht, defaultTurn, hq, hh, hostTurn]

/-- A host's turn takes the first waiting transaction (60_exceptions.md R167). -/
theorem step_hostTurn {s : State} {a : HostAction} {rest : List HostAction} {ts : List Turn}
    (ht : s.turns = .host :: ts) (hh : s.host = a :: rest) : step s = hostAction a ((s.setTurns ts).setHost rest) := by
  simp [step, nextTurn, ht, grantedTurn, hh, hostTurn]

/-- Settles O5: the turn takes the CMD write, and the write runs the command. -/
theorem stepRunsTheDecodedCommand : Obligations.StepRunsTheDecodedCommand := by
  refine fun s v i rest hb hh hd => ⟨fun ts ht => ?_, fun ht => ?_⟩
  · exact (step_hostTurn ht hh).trans (hostAction_command hb hd)
  · exact (step_defaultHost ht (sequencerStep_idle s hb) hh).trans (hostAction_command hb hd)

/-- Settles O6: the placing lays down a host's turn with the command's word, and the idle block accepts it. -/
theorem placedCommandRunsNext : Obligations.PlacedCommandRunsNext := by
  intro s i
  have hword : decodeWord (BitVec.ofNat 32 ((encode i).toNat % 2 ^ 32)) = .ok i := by
    rw [Nat.mod_eq_of_lt (encode i).isLt, BitVec.ofNat_toNat, BitVec.setWidth_eq, decodeWord_encode]
  exact (stepRunsTheDecodedCommand _ _ i s.host rfl rfl hword).1 s.turns rfl

end Sys2Proof.Machine
end

section
/-!
SUPPORT. The memory and who may touch it (20_memory.md): group accesses, admission, what a candidate step needs, when the
machine stops, which move changes a byte, and the host's own accesses.
-/

namespace Sys2Proof.Machine

/-! ## Group accesses -/

/-- Lane `i` of a group read is the byte at `a + i` (20_memory.md R53). -/
theorem lane_memRead4 (s : State) (a : Addr) {i : Nat} (hi : i < 4) :
    lane (memRead4 s a) i = memByte s.mem (a + BitVec.ofNat 32 i) := by
  obtain ⟨h0, h1, h2, h3⟩ :=
    lane_wordOfBytes (memByte s.mem a) (memByte s.mem (a + 1)) (memByte s.mem (a + 2)) (memByte s.mem (a + 3))
  interval_cases i
  · simpa [memRead4] using h0
  · exact h1
  · exact h2
  · exact h3

/-- A group write puts lane `i` at `a + i` (20_memory.md R53). -/
theorem memByte_memWrite4_lane (s : State) (a : Addr) (v : Word) {i : Nat} (hi : i < 4) :
    memByte (memWrite4 a v s).mem (a + BitVec.ofNat 32 i) = lane v i := by
  rw [memByte_memWrite4]
  interval_cases i <;> simp

/-- A group write leaves every byte but its four (00_scope.md R14). -/
theorem memByte_memWrite4_other (s : State) (a a' : Addr) (v : Word) (h : ∀ i, i < 4 → a' ≠ a + BitVec.ofNat 32 i) :
    memByte (memWrite4 a v s).mem a' = memByte s.mem a' := by
  have h0 : a' ≠ a := by simpa using h 0 (by decide)
  have h1 : a' ≠ a + 1 := h 1 (by decide)
  have h2 : a' ≠ a + 2 := h 2 (by decide)
  have h3 : a' ≠ a + 3 := h 3 (by decide)
  rw [memByte_memWrite4, if_neg h3, if_neg h2, if_neg h1, if_neg h0]

/-- Settles O27: the lanes of a group are its bytes in order of address, read and written. -/
theorem groupAccessIsLittleEndian : Obligations.GroupAccessIsLittleEndian := fun s a v =>
  ⟨fun _ => lane_memRead4 s a, fun _ => memByte_memWrite4_lane s a v, fun a' => memByte_memWrite4_other s a a' v⟩

/-! ## Admission -/

/-- Settles O26: `memAdmit` checks the window, and then the ranges. -/
theorem admissionExcludesTheWindow : Obligations.AdmissionExcludesTheWindow := by
  intro p a
  rw [← inWindow_iff, memAdmit, Bool.and_eq_true, List.any_eq_true]
  simp only [Bool.not_eq_true', Bool.not_eq_true, Bool.and_eq_true, decide_eq_true_eq]

/-! ## The candidate step -/

/-- The number of elements the candidate step processes (42_block_kernel.md R135, R136). -/
def stepWidth (s : State) : Nat := if selectsGroup s then 4 else 1

theorem stepWidth_eq (s : State) :
    stepWidth s = if s.seqMode = true ∧ s.seqJ.toNat < 4 * (s.len.toNat / 4) then 4 else 1 := by
  simp only [stepWidth, selectsGroup_iff]

/-- A step is enabled if the platform admits every byte it touches (20_memory.md R58, 42_block_kernel.md R138). -/
theorem stepEnabled_iff (s : State) :
    stepEnabled s = true ↔ s.busy = true ∧ ∀ i, i < stepWidth s → elementAdmitted s i = true := by
  rw [stepEnabled, stepWidth, Bool.and_eq_true]
  cases selectsGroup s with
  | true =>
    simp only [if_true, Bool.and_eq_true, Nat.forall_lt_succ_right, Nat.not_lt_zero, false_implies, forall_const,
      true_and]
  | false => simp

/-- With no enabled step the block's turn does nothing (20_memory.md R58, 60_exceptions.md R169). -/
theorem blockTurn_disabled {s : State} (h : stepEnabled s = false) : blockTurn s = s := by
  rw [blockTurn, sequencerStep_stuck s h]

/-- The block's turn is taken off the list and done (00_scope.md R18). -/
theorem step_blockTurn {s : State} {ts : List Turn} (ht : s.turns = .block :: ts) :
    step s = .next (blockTurn (s.setTurns ts)) := by
  simp [step, nextTurn, ht, grantedTurn]

/-- Settles O24: one unadmitted byte of the candidate step disables it, and the turn passes. -/
theorem unadmittedAccessIsStuck : Obligations.UnadmittedAccessIsStuck := by
  intro s ts i ht _ hi hbyte
  rw [← stepWidth_eq] at hi
  have hoff : stepEnabled (s.setTurns ts) = false := by
    refine Bool.eq_false_iff.mpr fun hon => ?_
    obtain ⟨_, hadmitted⟩ := (stepEnabled_iff _).mp hon
    obtain ⟨hsrc, hdst⟩ := Bool.and_eq_true_iff.mp (hadmitted i hi)
    rcases hbyte with h | h
    · exact absurd hsrc (Bool.eq_false_iff.mp h)
    · exact absurd hdst (Bool.eq_false_iff.mp h)
  rw [step_blockTurn ht, blockTurn_disabled hoff]
  rfl

/-! ## When a step stops -/

/-- A host's turn never stops the machine. -/
theorem hostTurn_next (s : State) : ∃ t, hostTurn s = .next t := by
  cases hh : s.host with
  | nil => exact ⟨s, by simp [hostTurn, hh]⟩
  | cons a rest =>
    obtain ⟨t, ht, _⟩ := hostAction_cases a (s.setHost rest)
    exact ⟨t, by simp [hostTurn, hh, ht]⟩

/-- A turn laid down never stops the machine. -/
theorem grantedTurn_next (x : Turn) (s : State) : ∃ t, grantedTurn x s = .next t := by
  cases x with
  | host => exact hostTurn_next s
  | block => exact ⟨_, rfl⟩
  | reset => exact ⟨_, rfl⟩

/-- A busy block without an enabled step, and no turn and no transaction waiting: no agent can move (log 13). -/
theorem step_stuckAlone {s : State} (ht : s.turns = []) (hh : s.host = []) (hb : s.busy = true)
    (hq : sequencerStep s = none) : step s = .fault .stuckUnadmittedAccess := by
  simp [step, nextTurn, ht, defaultTurn, hq, hh, hb]

/-- In every other state an agent moves. -/
theorem step_next {s : State} (h : ¬ (s.turns = [] ∧ s.host = [] ∧ s.busy = true ∧ sequencerStep s = none)) :
    ∃ t, step s = .next t := by
  cases ht : s.turns with
  | cons x ts =>
    obtain ⟨t, hx⟩ := grantedTurn_next x (s.setTurns ts)
    exact ⟨t, by simpa [step, nextTurn, ht] using hx⟩
  | nil =>
    cases hq : sequencerStep s with
    | some t => exact ⟨t, by simp [step, nextTurn, ht, defaultTurn, hq]⟩
    | none =>
      have hmove : ¬ (s.busy = true ∧ s.host = []) := fun ⟨hb, hh⟩ => h ⟨ht, hh, hb, hq⟩
      obtain ⟨t, hhost⟩ := hostTurn_next s
      exact ⟨t, by simpa [step, nextTurn, ht, defaultTurn, hq, hmove] using hhost⟩

/-- Settles O25: `step_stuckAlone` is the one stop, and `step_next` is every other state. -/
theorem stopsOnlyWhenStuckAndAlone : Obligations.StopsOnlyWhenStuckAndAlone := by
  refine ⟨fun s f => ⟨fun hf => ?_, fun ⟨ht, hh, hb, hq⟩ => ?_⟩, fun s r hr => ?_⟩
  · by_contra halone
    obtain ⟨t, hnext⟩ := step_next halone
    simp [hnext] at hf
  · cases f
    exact step_stuckAlone ht hh hb hq
  · by_cases halone : s.turns = [] ∧ s.host = [] ∧ s.busy = true ∧ sequencerStep s = none
    · obtain ⟨ht, hh, hb, hq⟩ := halone
      simp [step_stuckAlone ht hh hb hq] at hr
    · obtain ⟨t, hnext⟩ := step_next halone
      simp [hnext] at hr

/-! ## Which move changes a byte -/

/-- The sequencer's destination address is a byte of the destination buffer (42_block_kernel.md R135, R136). -/
theorem dstAddr_eq (s : State) (i : Nat) : dstAddr s i = bufferAddr s.dst (s.seqJ.toNat + i) := by
  simp [dstAddr, bufferAddr, BitVec.ofNat_add, BitVec.add_assoc]

/-- A sequencer step leaves every byte but its destination bytes. -/
theorem sequencerStep_mem_other {s t : State} (h : sequencerStep s = some t) {a : Addr}
    (ha : ∀ i, i < stepWidth s → a ≠ dstAddr s i) : memByte t.mem a = memByte s.mem a := by
  obtain ⟨_, _, ⟨hg, rfl⟩ | ⟨hg, rfl⟩⟩ := sequencerStep_cases s t h
  · have ha : ∀ i, i < 4 → a ≠ dstAddr s 0 + BitVec.ofNat 32 i := by
      simpa [stepWidth, hg, dstAddr] using ha
    rw [groupStep_eq]
    exact memByte_memWrite4_other s _ a _ ha
  · rw [scalarStep_eq]
    exact memByte_memSet_other _ _ a _ (ha 0 (by simp [stepWidth, hg]))

/-- Every element of the candidate step lies below `LEN` (42_block_kernel.md R138). -/
theorem State.Inv.stepIndexBelowLen {s : State} (h : s.Inv) (hb : s.busy = true) {i : Nat} (hi : i < stepWidth s) :
    s.seqJ.toNat + i < s.len.toNat := by
  have hlt := h.indexBelowLen hb
  cases hg : selectsGroup s with
  | false =>
    obtain rfl : i = 0 := by simpa [stepWidth, hg] using hi
    exact hlt
  | true =>
    have halign := h.groupIndexAligned hb hg
    obtain ⟨_, hgroup⟩ := (selectsGroup_iff s).mp hg
    simp only [stepWidth, hg, if_true] at hi
    omega

/-- A byte that a sequencer step changes is one of the destination buffer (20_memory.md R51). -/
theorem State.Inv.sequencerStep_mem {s t : State} (h : s.Inv) (hstep : Machine.sequencerStep s = some t) {a : Addr}
    (hne : memByte t.mem a ≠ memByte s.mem a) : s.busy = true ∧ ∃ j, j < s.len.toNat ∧ a = bufferAddr s.dst j := by
  obtain ⟨hb, _⟩ := sequencerStep_busy hstep
  by_contra hout
  refine hne (sequencerStep_mem_other hstep fun i hi ha => hout ⟨hb, s.seqJ.toNat + i, ?_, ?_⟩)
  · exact h.stepIndexBelowLen hb hi
  · rw [ha, dstAddr_eq]

/-- A store is the only host transaction that changes the memory, at its own address (20_memory.md R51). -/
theorem HostEffect.mem_eq_or_stored {x : HostAction} {s t : State} (he : HostEffect x s t) :
    t.mem = s.mem ∨ ∃ a b, x = .memStore a b ∧ t.mem = memSet s.mem a b := by
  cases he with
  | stored a b hx => exact .inr ⟨a, b, hx, rfl⟩
  | accepted _ _ _ _ _ hw => cases hw with
    | start => exact .inl (startNegv_mem s)
    | direct | cfg | opa | src | dst | len => exact .inl rfl
  | polled => exact .inl (by rw [pollRound_eq])
  | ignored | raised | cleared | answered => exact .inl rfl

/-- Settles O40: of the moves of `step_cases`, the sequencer's step and the host's store alone write memory. -/
theorem memoryChangesOnlyInTheDestination : Obligations.MemoryChangesOnlyInTheDestination := by
  intro s t a h hstep hne
  rcases step_cases s t hstep with ⟨_, rfl⟩ | ⟨hturn, hseq | ⟨x, rest, hqueue, hhost⟩ | rfl⟩
  · exact absurd rfl hne
  · obtain ⟨hb, hdst⟩ := State.Inv.sequencerStep_mem (s := takeTurn s) h.frame hseq hne
    exact ⟨hturn, .inl ⟨hseq, hb, hdst⟩⟩
  · rcases (hostAction_effect hhost).mem_eq_or_stored with hmem | ⟨a', b, rfl, hmem⟩
    · exact absurd (by rw [hmem]; rfl) hne
    · obtain rfl : a = a' := by
        by_contra ha
        exact hne (by rw [hmem]; exact memByte_memSet_other _ a' a b ha)
      exact ⟨hturn, .inr ⟨b, rest, hqueue, hhost⟩⟩
  · exact absurd rfl hne

/-! ## The host's own accesses -/

/-- Settles O50: a legal read keeps the value it returns, and nothing else. -/
theorem registerReadsHaveNoSideEffect : Obligations.RegisterReadsHaveNoSideEffect := fun s off h4 hlt =>
  ⟨_, hostAction_regRead s off h4 hlt⟩

theorem markRace_eq (r : Bool) (s : State) :
    markRace r s = { s with faults := { s.faults with race := s.faults.race || r } } := by
  simp [markRace, markFaults_eq, FaultSet.union, FaultSet.empty]

/-- A store outside the window is performed, and marked if it races (20_memory.md R65). -/
theorem hostAction_memStore {s : State} {a : Addr} (b : Byte) (h : inWindow s.params a = false) :
    hostAction (.memStore a b) s = .next (memWrite1 a b (markRace (hostWriteRaces a s) s)) := by
  simp [hostAction, hostStore, h]

/-- A load outside the window returns the byte, and is marked if it races (20_memory.md R65). -/
theorem hostAction_memLoad {s : State} {a : Addr} (h : inWindow s.params a = false) :
    hostAction (.memLoad a) s =
      .next ((markRace (hostReadRaces a s) s).setReadData (some ((memByte s.mem a).setWidth 32))) := by
  simp [hostAction, hostLoad, h, memRead1]

/-- A write races on the bytes of both buffers (20_memory.md R65 (a), (b)). -/
theorem hostWriteRaces_iff (a : Addr) (s : State) :
    hostWriteRaces a s = true ↔
      s.busy = true ∧ ∃ j, j < s.len.toNat ∧ (a = bufferAddr s.src j ∨ a = bufferAddr s.dst j) := by
  simp only [hostWriteRaces, Bool.and_eq_true, Bool.or_eq_true, inBuffer_iff, and_or_left, exists_or]

/-- A read races on the bytes of the destination alone (20_memory.md R65 (c)). -/
theorem hostReadRaces_iff (a : Addr) (s : State) :
    hostReadRaces a s = true ↔ s.busy = true ∧ ∃ j, j < s.len.toNat ∧ a = bufferAddr s.dst j := by
  rw [hostReadRaces, Bool.and_eq_true, inBuffer_iff]

/-- Settles O52: the store writes one byte and adds `hostWriteRaces` to `RACE`. -/
theorem hostStoreWritesAndMarksRace : Obligations.HostStoreWritesAndMarksRace := by
  intro s a b hout
  rw [← inWindow_iff, Bool.not_eq_true] at hout
  refine ⟨_, hostAction_memStore b hout, memByte_memSet_same _ a b, fun a' => memByte_memSet_other _ a a' b,
    ?_, ?_, fun hsrc hdst => ?_⟩
  · rw [markRace_eq]
    rfl
  · rw [← hostWriteRaces_iff, markRace_eq]
    exact Bool.or_eq_true_iff
  · rw [← inBuffer_interval _ _ _ hsrc, ← inBuffer_interval _ _ _ hdst, markRace_eq]
    rfl

/-- Settles O53: the load returns the byte and adds `hostReadRaces` to `RACE`. -/
theorem hostLoadReadsAndMarksRace : Obligations.HostLoadReadsAndMarksRace := by
  intro s a hout
  rw [← inWindow_iff, Bool.not_eq_true] at hout
  refine ⟨_, hostAction_memLoad hout, ?_, ?_, fun hdst => ?_⟩
  · rw [markRace_eq]
    rfl
  · rw [← hostReadRaces_iff, markRace_eq]
    exact Bool.or_eq_true_iff
  · rw [← inBuffer_interval _ _ _ hdst, markRace_eq]
    rfl

end Sys2Proof.Machine
end

section
/-!
SUPPORT. The encoding (30_encoding.md): decode and encode are inverse on words and on byte lanes, what a CMD write makes of
each word, and a round of `poll`.
-/

namespace Sys2Proof.Machine

/-! ## Words and their byte lanes -/

/-- A word decodes to a command exactly if it is that command's word (30_encoding.md R75). -/
theorem decodeWord_eq_ok_iff {w : Word} {i : Instr} : decodeWord w = .ok i ↔ w = encode i :=
  ⟨eq_encode_of_decodeWord, fun h => h ▸ decodeWord_encode i⟩

theorem bytesOfWord_eq_lanes (v : Word) : bytesOfWord v = [lane v 0, lane v 1, lane v 2, lane v 3] := rfl

theorem bytesOfWord_wordOfBytes (b0 b1 b2 b3 : Byte) : bytesOfWord (wordOfBytes b0 b1 b2 b3) = [b0, b1, b2, b3] := by
  obtain ⟨h0, h1, h2, h3⟩ := lane_wordOfBytes b0 b1 b2 b3
  rw [bytesOfWord_eq_lanes, h0, h1, h2, h3]

/-- Bytes that decode are the four lanes of the command's word and what is left (30_encoding.md R78, 20_memory.md R55). -/
theorem eq_encodeBytes_append_of_decodeBytes {bs rest : List Byte} {i : Instr} (h : decodeBytes bs = .ok (i, rest)) :
    bs = encodeBytes i ++ rest := by
  unfold decodeBytes at h
  split at h
  case h_1 b0 b1 b2 b3 tail =>
    split at h
    case h_1 j hd =>
      obtain ⟨rfl, rfl⟩ : j = i ∧ tail = rest := by simpa using h
      rw [encodeBytes, ← eq_encode_of_decodeWord hd, bytesOfWord_wordOfBytes]
      rfl
    case h_2 => cases h
  case h_2 => cases h

/-- The law of the command words holds of every command. -/
theorem commandWord_statement (i : Instr) : Laws.CommandWord.Statement i :=
  match i with
  | .snegQ7 => Laws.CommandWord.snegQ7
  | .pnegB4 => Laws.CommandWord.pnegB4
  | .psatB4 => Laws.CommandWord.psatB4
  | .pnegsB4 => Laws.CommandWord.pnegsB4
  | .negv => Laws.CommandWord.negv

theorem decodeBytes_encodeBytes_append (i : Instr) (rest : List Byte) :
    decodeBytes (encodeBytes i ++ rest) = .ok (i, rest) := by
  obtain ⟨_, _, hbytes⟩ := commandWord_statement i
  exact hbytes rest

/-- Settles O2: on bytes, the word read from the first four lanes has these lanes. -/
theorem decodeAndEncodeAgree : Obligations.DecodeAndEncodeAgree :=
  ⟨fun _ _ => decodeWord_eq_ok_iff, fun _ rest i =>
    ⟨eq_encodeBytes_append_of_decodeBytes, fun h => h ▸ decodeBytes_encodeBytes_append i rest⟩⟩

/-- Settles O1: each of the five words is its command's encoding. -/
theorem decodesTheFiveCommandWords : Obligations.DecodesTheFiveCommandWords :=
  ⟨decodeWord_encode .snegQ7, decodeWord_encode .pnegB4, decodeWord_encode .psatB4, decodeWord_encode .pnegsB4,
    decodeWord_encode .negv⟩

/-! ## What the host's transactions make of a word -/

/-- An idle block raises `ILLEGAL_CMD` for a CMD write of a word that is no command (60_exceptions.md R154). -/
theorem hostAction_illegalWord {s : State} {v : Word} {e : DecodeReject} (hb : s.busy = false)
    (hd : decodeWord v = .error e) : hostAction (.regWrite 0x00 4 v) s = .next (raiseError .illegalCmd s) := by
  rw [hostAction_regWrite s 0x00 v rfl (by decide)]
  simp [regAt, regWrite, cmdWrite, hb, hd]

/-- Settles O4: either the word decodes, and its command runs, or it is no command's word, and the block raises. -/
theorem everyWordRunsOneCommandOrRaises : Obligations.EveryWordRunsOneCommandOrRaises := by
  intro s v hb
  cases hd : decodeWord v with
  | ok i => exact .inl ⟨i, eq_encode_of_decodeWord hd, hostAction_command hb hd⟩
  | error e =>
    refine .inr ⟨fun i hv => ?_, hostAction_illegalWord hb hd⟩
    cases hd.symm.trans (decodeWord_eq_ok_iff.mpr hv)

/-- Settles O55: the value read is `statusWord`, whose bit 0 is `BUSY`. -/
theorem pollRepeatsWhileBusy : Obligations.PollRepeatsWhileBusy := by
  refine fun s => ⟨statusWord s, statusWord_getLsbD_zero s, rfl, ?_⟩
  rw [statusWord_getLsbD_zero, hostAction, pollRound_eq]

end Sys2Proof.Machine
end

section
/-!
SUPPORT. The scalar Q7 saturating negator (40_scalar_q7.md): the integer laws of `satneg8`, the result of `SNEG.Q7`, and the
frame of every command.
-/

namespace Sys2Proof.Machine

/-! ## satneg8 -/

theorem satneg8_of_ne {b : Byte} (h : b ≠ 0x80) : satneg8 b = -b := (if_neg h).trans (BitVec.zero_sub b)

/-- Away from the most negative byte the negation is exact (40_scalar_q7.md R102 (a)). -/
theorem toInt_satneg8_of_ne {b : Byte} (h : b ≠ 0x80) : (satneg8 b).toInt = -b.toInt := by
  rw [satneg8_of_ne h, BitVec.toInt_neg_of_ne_intMin h]

/-- 0x80 is the one byte that reads as -128. -/
theorem neg_127_le_toInt {b : Byte} (h : b ≠ 0x80) : -127 ≤ b.toInt := by
  have hne : b.toInt ≠ -128 := BitVec.toInt_ne.mpr h
  have := BitVec.le_toInt b
  omega

/-- 0x80 saturates, and every other byte is negated exactly and stays at most 127 (40_scalar_q7.md R100). -/
theorem toInt_satneg8 (b : Byte) : (satneg8 b).toInt = if -b.toInt > 127 then 127 else -b.toInt := by
  by_cases h : b = 0x80
  · subst h
    rfl
  · have := neg_127_le_toInt h
    rw [toInt_satneg8_of_ne h, if_neg (by omega)]

/-- Settles O8: the integer reading of `satneg8`. -/
theorem satnegIsSaturatedNegation : Obligations.SatnegIsSaturatedNegation := toInt_satneg8

/-- The range of the result (40_scalar_q7.md R102 (b)). -/
theorem toInt_satneg8_range (b : Byte) : -127 ≤ (satneg8 b).toInt ∧ (satneg8 b).toInt ≤ 127 := by
  have := BitVec.toInt_lt (x := b)
  rw [toInt_satneg8]
  split <;> omega

theorem satneg8_ne_min (b : Byte) : satneg8 b ≠ 0x80 := by
  intro h
  have hrange := toInt_satneg8_range b
  rw [h] at hrange
  exact absurd hrange (by decide)

/-- Zero is the only fixed point (40_scalar_q7.md R102 (c)). -/
theorem satneg8_eq_self_iff (b : Byte) : satneg8 b = b ↔ b = 0x00 := by
  have hzero : (0x00 : Byte).toInt = 0 := rfl
  rw [← BitVec.toInt_inj, toInt_satneg8, ← BitVec.toInt_inj, hzero]
  split <;> omega

/-- On the bytes that do not saturate `satneg8` is its own inverse (40_scalar_q7.md R102 (d)). -/
theorem satneg8_satneg8 {b : Byte} (h : b ≠ 0x80) : satneg8 (satneg8 b) = b := by
  rw [satneg8_of_ne (satneg8_ne_min b), satneg8_of_ne h, neg_neg]

/-- Settles O9: a function that is its own inverse is injective, and the six laws are the lemmas above. -/
theorem satnegIntegerLaws : Obligations.SatnegIntegerLaws := by
  refine ⟨⟨rfl, fun _ => toInt_satneg8_of_ne⟩, fun b => ⟨satneg8_ne_min b, toInt_satneg8_range b⟩, satneg8_eq_self_iff,
    ⟨fun _ => satneg8_satneg8, rfl⟩, ⟨fun b c hb hc h => ?_, rfl⟩, fun b => BitVec.neg_eq_not_add b⟩
  rw [← satneg8_satneg8 hb, h, satneg8_satneg8 hc]

/-! ## The commands -/

/-- `SNEG.Q7` on an idle block, whatever `HAS_PACKED` is (40_scalar_q7.md R103). -/
theorem exec_snegQ7_idle {s : State} (hb : s.busy = false) :
    exec .snegQ7 s = .next { s with res := (satneg8 (lane s.opa 0)).signExtend 32 } :=
  congrArg _ (refuseWhileBusy_idle _ s hb)

/-- Settles O13: sign extension keeps the integer, and `satneg8` saturates it. -/
theorem snegQ7Result : Obligations.SnegQ7Result := by
  refine ⟨rfl, fun s => ⟨fun hb => ⟨_, exec_snegQ7_idle hb, rfl, rfl, ?_⟩, exec_busy .snegQ7 s⟩⟩
  exact (BitVec.toInt_signExtend_of_le (by decide)).trans (toInt_satneg8 _)

/-- A start changes the sequencer, `BUSY` and `FAULTS` only (42_block_kernel.md R132, R133). -/
theorem startNegv_frame (s : State) :
    startNegv s = { s with
      busy := (startNegv s).busy, seqJ := (startNegv s).seqJ
      seqMode := (startNegv s).seqMode, faults := (startNegv s).faults } := by
  by_cases h : s.len = 0
  · rw [startNegv_empty s h]
  · rw [startNegv_nonempty s h]

/-- Settles O21: each of the three things a command can do keeps what the frame names. -/
theorem commandFrame : Obligations.CommandFrame := by
  intro i s
  rcases exec_cases i s with ⟨c, h⟩ | ⟨_, hi, v, h⟩ | ⟨_, hi, h⟩
  · exact ⟨raiseError c s, h, rfl, fun _ => ⟨rfl, rfl, rfl, rfl⟩, fun _ => rfl⟩
  · exact ⟨s.setRes v, h, rfl, fun _ => ⟨rfl, rfl, rfl, rfl⟩, fun hnegv => absurd hnegv hi⟩
  · refine ⟨startNegv s, h, ?_, fun hne => absurd hi hne, fun _ => startNegv_res s⟩
    rw [startNegv_frame]

end Sys2Proof.Machine
end

section
/-!
SUPPORT. The packed 4-wide saturating negate (41_packed_4wide.md): its byte functions, what they do to each lane of a word,
and the results of `PNEG.B4`, `PSAT.B4` and `PNEGS.B4`.
-/

namespace Sys2Proof.Machine

/-! ## The functions on one lane -/

theorem rawneg8_eq_neg (b : Byte) : rawneg8 b = -b := BitVec.zero_sub b

/-- The raw negation is its own inverse, so a bijection (41_packed_4wide.md R112). -/
theorem rawneg8_involutive : Function.Involutive rawneg8 := fun b => by
  rw [rawneg8_eq_neg, rawneg8_eq_neg, neg_neg]

/-- 0x80 is its own raw negation, and no other byte's. -/
theorem rawneg8_eq_min_iff (b : Byte) : rawneg8 b = 0x80 ↔ b = 0x80 := rawneg8_involutive.eq_iff

/-- The fix replaces 0x80, which arises from 0x80 alone, and there `satneg8` saturates (41_packed_4wide.md R112). -/
theorem lanefix8_rawneg8 (b : Byte) : lanefix8 (rawneg8 b) = satneg8 b := by
  simp only [lanefix8, rawneg8_eq_min_iff]
  rfl

/-- Settles O10: the raw negation is an involution that fixes 0x80. -/
theorem laneFixAfterRawNegateIsSatneg : Obligations.LaneFixAfterRawNegateIsSatneg :=
  ⟨lanefix8_rawneg8, rawneg8_involutive.bijective, rawneg8_eq_min_iff⟩

theorem lanefix8_of_ne {y : Byte} (h : y ≠ 0x80) : lanefix8 y = y := if_neg h

theorem lanefix8_ne_min (y : Byte) : lanefix8 y ≠ 0x80 := by
  by_cases h : y = 0x80
  · subst h
    decide
  · rwa [lanefix8_of_ne h]

/-- The fix leaves no 0x80 for a second fix to change (41_packed_4wide.md R117). -/
theorem lanefix8_lanefix8 (y : Byte) : lanefix8 (lanefix8 y) = lanefix8 y := lanefix8_of_ne (lanefix8_ne_min y)

/-! ## Words lane by lane -/

/-- Lane `i` of the result is the function of lane `i` of the operand (41_packed_4wide.md R119). -/
theorem lane_mapLanes (f : Byte → Byte) (w : Word) {i : Nat} (hi : i < 4) : lane (mapLanes f w) i = f (lane w i) := by
  obtain ⟨h0, h1, h2, h3⟩ := lane_pack (f (lane w 0)) (f (lane w 1)) (f (lane w 2)) (f (lane w 3))
  interval_cases i
  · exact h0
  · exact h1
  · exact h2
  · exact h3

/-- Two functions in sequence over the lanes are their composite over the lanes. -/
theorem mapLanes_mapLanes (f g : Byte → Byte) (w : Word) :
    mapLanes f (mapLanes g w) = mapLanes (fun b => f (g b)) w := by
  rw [mapLanes, lane_mapLanes g w (by decide), lane_mapLanes g w (by decide), lane_mapLanes g w (by decide),
    lane_mapLanes g w (by decide), mapLanes]

/-- The two stages in sequence saturate each lane (41_packed_4wide.md R115, R112). -/
theorem pnegs4_eq_mapLanes (w : Word) : pnegs4 w = mapLanes satneg8 w := by
  simp only [pnegs4, psat4, pneg4, mapLanes_mapLanes, lanefix8_rawneg8]

theorem lane_pneg4 (w : Word) {i : Nat} (hi : i < 4) : lane (pneg4 w) i = 0x00 - lane w i := lane_mapLanes rawneg8 w hi

theorem lane_psat4 (w : Word) {i : Nat} (hi : i < 4) :
    lane (psat4 w) i = if lane w i = 0x80 then 0x7F else lane w i := lane_mapLanes lanefix8 w hi

theorem lane_pnegs4 (w : Word) {i : Nat} (hi : i < 4) : lane (pnegs4 w) i = satneg8 (lane w i) := by
  rw [pnegs4_eq_mapLanes, lane_mapLanes satneg8 w hi]

theorem psat4_psat4 (w : Word) : psat4 (psat4 w) = psat4 w := by
  simp only [psat4, mapLanes_mapLanes, lanefix8_lanefix8]

/-- Settles O11: the three lane equations, and the definition of `pnegs4`. -/
theorem packedFunctionsActByLane : Obligations.PackedFunctionsActByLane := fun w _ hi =>
  ⟨lane_pneg4 w hi, lane_psat4 w hi, lane_pnegs4 w hi, rfl⟩

/-- Settles O12: each of the three is one byte function over the lanes. -/
theorem packedLanesAreIndependent : Obligations.PackedLanesAreIndependent := by
  intro f hf w w' i k hi hk hlane
  obtain ⟨g, rfl⟩ : ∃ g, f = mapLanes g := by
    rcases hf with rfl | rfl | rfl
    · exact ⟨rawneg8, rfl⟩
    · exact ⟨lanefix8, rfl⟩
    · exact ⟨satneg8, funext pnegs4_eq_mapLanes⟩
  rw [lane_mapLanes g w hi, lane_mapLanes g w' hk, hlane]

/-! ## The commands -/

/-- The command that drives the packed unit with `op` (10_state.md R41). -/
def packedInstr (op : PackedOp) : Instr :=
  match op with
  | .neg => .pnegB4
  | .sat => .psatB4
  | .negs => .pnegsB4

theorem exec_packedInstr (op : PackedOp) (s : State) : exec (packedInstr op) s = .next (packedCommand op s) := by
  cases op <;> rfl

/-- On an idle block with the packed unit, the unit's output on `OPA` goes to `RES`, and nothing else changes
(41_packed_4wide.md R116 to R118). -/
theorem exec_packedInstr_run (op : PackedOp) {s : State} (hb : s.busy = false) (hp : s.params.hasPacked = true) :
    exec (packedInstr op) s = .next { s with res := packedUnit op s.opa } := by
  rw [exec_packedInstr, packedCommand_run op s hb hp]

theorem eq_of_exec_packedInstr {op : PackedOp} {s t : State} (h : exec (packedInstr op) s = .next t)
    (hb : s.busy = false) (hp : s.params.hasPacked = true) : t = { s with res := packedUnit op s.opa } :=
  Host.Outcome.next.inj (h.symm.trans (exec_packedInstr_run op hb hp))

/-- On an idle block without it, the command raises `UNIMPL_CMD` (60_exceptions.md R156). -/
theorem exec_packedInstr_absent (op : PackedOp) {s : State} (hb : s.busy = false) (hp : s.params.hasPacked = false) :
    exec (packedInstr op) s = .next (raiseError .unimplCmd s) := by
  rw [exec_packedInstr, packedCommand_absent op s hb hp]

/-- Settles O14: the unit's output is `pneg4`, lane by lane the raw negation. -/
theorem pnegB4Result : Obligations.PnegB4Result :=
  ⟨rfl, fun s => ⟨fun hb hp => ⟨_, exec_packedInstr_run .neg hb hp, rfl, fun _ => lane_pneg4 s.opa⟩,
    exec_packedInstr_absent .neg, exec_busy .pnegB4 s⟩⟩

/-- Settles O15: the unit's output is `psat4`, lane by lane the fix, which is idempotent. -/
theorem psatB4Result : Obligations.PsatB4Result :=
  ⟨rfl, psat4_psat4, fun s => ⟨fun hb hp => ⟨_, exec_packedInstr_run .sat hb hp, rfl, fun _ => lane_psat4 s.opa⟩,
    exec_packedInstr_absent .sat, exec_busy .psatB4 s⟩⟩

/-- A lane of `pnegs4` as an integer (41_packed_4wide.md R118, 40_scalar_q7.md R100). -/
theorem toInt_lane_pnegs4 (w : Word) {i : Nat} (hi : i < 4) :
    (lane (pnegs4 w) i).toInt = if -(lane w i).toInt > 127 then 127 else -(lane w i).toInt := by
  rw [lane_pnegs4 w hi, toInt_satneg8]

theorem lane_pnegs4_ne_min (w : Word) {i : Nat} (hi : i < 4) : lane (pnegs4 w) i ≠ 0x80 := by
  rw [lane_pnegs4 w hi]
  exact satneg8_ne_min _

/-- Settles O16: the unit's output is `pnegs4`, lane by lane `satneg8`. -/
theorem pnegsB4Result : Obligations.PnegsB4Result :=
  ⟨rfl, fun s => ⟨fun hb hp => ⟨_, exec_packedInstr_run .negs hb hp, rfl,
      fun _ hi => ⟨toInt_lane_pnegs4 s.opa hi, lane_pnegs4_ne_min s.opa hi, rfl⟩⟩,
    exec_packedInstr_absent .negs, exec_busy .pnegsB4 s⟩⟩

/-- Settles O17: both leave `psat4 (pneg4 OPA)` in `RES`, once `OPA` is put back. -/
theorem pnegsIsPnegThenPsat : Obligations.PnegsIsPnegThenPsat := by
  intro s t u hb hp hneg hsat
  obtain rfl := eq_of_exec_packedInstr (op := .neg) hneg hb hp
  obtain rfl := eq_of_exec_packedInstr (op := .sat) hsat hb hp
  exact exec_packedInstr_run .negs hb hp

end Sys2Proof.Machine
end

section
/-!
SUPPORT. The block kernel (42_block_kernel.md): the start of a NEGV, what one sequencer step does, the index it runs on, and
how far a NEGV has got under every agent's move.
-/

namespace Sys2Proof.Machine

/-! ## The start -/

/-- `NEGV` on an idle block is its start (42_block_kernel.md R130). -/
theorem exec_negv_idle {s : State} (hb : s.busy = false) : exec .negv s = .next (startNegv s) :=
  congrArg _ (refuseWhileBusy_idle _ s hb)

theorem eq_startNegv_of_exec {s t : State} (hb : s.busy = false) (h : exec .negv s = .next t) : t = startNegv s :=
  Host.Outcome.next.inj (h.symm.trans (exec_negv_idle hb))

/-- Settles O19: the start of an empty buffer does nothing. -/
theorem negvOfEmptyBufferIsNoOp : Obligations.NegvOfEmptyBufferIsNoOp := by
  intro s hb hl
  rw [exec_negv_idle hb, startNegv_empty s hl]

/-- The range check adds to `WRAP` and `OVERLAP` alone (42_block_kernel.md R134). -/
theorem union_rangeFaults (f : FaultSet) (s : State) :
    f.union (rangeFaults s) = { f with
      wrap := f.wrap || decide (s.src.toNat + s.len.toNat > 2 ^ 32 ∨ s.dst.toNat + s.len.toNat > 2 ^ 32)
      overlap := f.overlap ||
        decide (s.src ≠ s.dst ∧ s.src.toNat < s.dst.toNat + s.len.toNat ∧
          s.dst.toNat < s.src.toNat + s.len.toNat) } := by
  simp [FaultSet.union, rangeFaults, FaultSet.empty, rangeWraps, rangesOverlap, BitVec.toNat_inj, Bool.and_assoc]

/-- Settles O20: the start of a non-empty buffer, with the marks of the range check. -/
theorem negvStartsTheSequencer : Obligations.NegvStartsTheSequencer := by
  intro s hb hl
  rw [exec_negv_idle hb, startNegv_nonempty s hl, union_rangeFaults]

/-! ## One sequencer step -/

/-- Settles O7: the default turn asks for the sequencer's step first. -/
theorem enabledSequencerStepComesFirst : Obligations.EnabledSequencerStepComesFirst := by
  intro s t ht hq
  simp [step, nextTurn, ht, defaultTurn, hq]

theorem blockTurn_idle {s : State} (hb : s.busy = false) : blockTurn s = s := by
  rw [blockTurn, sequencerStep_idle s hb]

/-- Settles O59: with `BUSY` 0 no step is enabled, so both turns pass. -/
theorem idleBlockTakesNoStep : Obligations.IdleBlockTakesNoStep := by
  intro s hb
  have hq := sequencerStep_idle s hb
  refine ⟨hq, fun ts ht => ?_, fun ht hh => ?_⟩
  · rw [step_blockTurn ht, blockTurn_idle (s := s.setTurns ts) hb]
    rfl
  · simp [step, nextTurn, ht, defaultTurn, hq, hb, hostTurn, hh]

/-- Settles O28: the wide-block mode needs the unit. -/
theorem noPackedUnitMeansScalarSteps : Obligations.NoPackedUnitMeansScalarSteps := by
  intro s h hp
  rw [selectsGroup_eq_false_iff]
  refine .inl (Bool.eq_false_iff.mpr fun hmode => ?_)
  exact absurd (h.modeNeedsUnit hmode) (by simp [hp])

/-- The block's turn with an enabled step takes it (42_block_kernel.md R138). -/
theorem blockTurn_enabled {s : State} (h : stepEnabled s = true) :
    blockTurn s = if selectsGroup s then groupStep s else scalarStep s := by
  rw [blockTurn, sequencerStep, if_pos h]

theorem sequencerStep_blockTurn {s : State} (h : stepEnabled s = true) : sequencerStep s = some (blockTurn s) := by
  rw [blockTurn_enabled h, sequencerStep, if_pos h]

/-- The sequencer's source address is a byte of the source buffer (42_block_kernel.md R135, R136). -/
theorem srcAddr_eq (s : State) (i : Nat) : srcAddr s i = bufferAddr s.src (s.seqJ.toNat + i) := by
  simp [srcAddr, bufferAddr, BitVec.ofNat_add, BitVec.add_assoc]

theorem stepWidth_group {s : State} (hg : selectsGroup s = true) : stepWidth s = 4 := if_pos hg

theorem stepWidth_scalar {s : State} (hg : selectsGroup s = false) : stepWidth s = 1 := if_neg (by simp [hg])

theorem srcAddr_zero (s : State) : srcAddr s 0 = s.src + s.seqJ := BitVec.add_zero _

theorem dstAddr_zero (s : State) : dstAddr s 0 = s.dst + s.seqJ := BitVec.add_zero _

/-- A group step puts `satneg8` of each of its source bytes at the destination byte (42_block_kernel.md R135). -/
theorem groupStep_mem_element (s : State) {i : Nat} (hi : i < 4) :
    memByte (groupStep s).mem (dstAddr s i) = satneg8 (memByte s.mem (srcAddr s i)) := by
  have hsrc : srcAddr s i = srcAddr s 0 + BitVec.ofNat 32 i := by rw [srcAddr_zero]; rfl
  have hdst : dstAddr s i = dstAddr s 0 + BitVec.ofNat 32 i := by rw [dstAddr_zero]; rfl
  rw [groupStep_eq, hdst, memByte_memWrite4_lane s _ _ hi, lane_pnegs4 _ hi, lane_memRead4 s _ hi, hsrc]

/-- In either strategy a step puts `satneg8` of each of its source bytes at the destination byte (42_block_kernel.md R135,
R136; 70_reset_and_hazards.md R190). -/
theorem sequencerStep_mem_element {s t : State} (h : sequencerStep s = some t) {i : Nat} (hi : i < stepWidth s) :
    memByte t.mem (dstAddr s i) = satneg8 (memByte s.mem (srcAddr s i)) := by
  obtain ⟨_, _, ⟨hg, rfl⟩ | ⟨hg, rfl⟩⟩ := sequencerStep_cases s t h
  · exact groupStep_mem_element s (stepWidth_group hg ▸ hi)
  · obtain rfl : i = 0 := by simpa [stepWidth, hg] using hi
    rw [scalarStep_eq]
    exact memByte_memSet_same _ _ _

theorem sequencerStep_seqJ {s t : State} (h : sequencerStep s = some t) :
    t.seqJ = s.seqJ + BitVec.ofNat 32 (stepWidth s) := by
  obtain ⟨_, _, ⟨hg, rfl⟩ | ⟨hg, rfl⟩⟩ := sequencerStep_cases s t h
  · simp [groupStep_eq, stepWidth, hg]
  · simp [scalarStep_eq, stepWidth, hg]

theorem sequencerStep_operands {s t : State} (h : sequencerStep s = some t) :
    t.src = s.src ∧ t.dst = s.dst ∧ t.len = s.len ∧ t.seqMode = s.seqMode := by
  rw [sequencerStep_frame h]
  exact ⟨rfl, rfl, rfl, rfl⟩

/-- Settles O22: the block's turn is the group step, which treats its four bytes as lanes. -/
theorem groupStepEffect : Obligations.GroupStepEffect := by
  intro s ts ht hb hmode hj hadmit
  have hg : selectsGroup (s.setTurns ts) = true := (selectsGroup_iff _).mpr ⟨hmode, hj⟩
  have hwidth := stepWidth_group hg
  have hon : stepEnabled (s.setTurns ts) = true := by
    refine (stepEnabled_iff _).mpr ⟨hb, fun i hi => Bool.and_eq_true_iff.mpr (hadmit i ?_)⟩
    omega
  have hseq := sequencerStep_blockTurn hon
  refine ⟨_, step_blockTurn ht, fun i hi => ?_, fun a ha => ?_, ?_⟩
  · exact sequencerStep_mem_element hseq (by omega)
  · exact sequencerStep_mem_other hseq fun i hi => ha i (by omega)
  · rw [blockTurn_enabled hon, if_pos hg, groupStep_eq]
    simp [hb, State.setTurns, bne, beq_eq_decide]

/-- Settles O23: the block's turn is the scalar step, which writes one byte. -/
theorem scalarStepEffect : Obligations.ScalarStepEffect := by
  intro s ts ht hb hscalar hsrc hdst
  have hg : selectsGroup (s.setTurns ts) = false := (selectsGroup_eq_false_iff _).mpr hscalar
  have hon : stepEnabled (s.setTurns ts) = true := by
    simp [stepEnabled, hg, hb, elementAdmitted, srcAddr_zero, dstAddr_zero, hsrc, hdst]
  have hturn : blockTurn (s.setTurns ts) = scalarStep (s.setTurns ts) := by simp [blockTurn_enabled hon, hg]
  rw [step_blockTurn ht, hturn, scalarStep_eq, srcAddr_zero, dstAddr_zero]
  refine ⟨_, rfl, memByte_memSet_same _ _ _, fun a => memByte_memSet_other _ _ a _, ?_⟩
  simp [hb, State.setTurns, bne, beq_eq_decide]

/-! ## The index -/

/-- Where the index of a started `NEGV` stands: within `LEN`, busy exactly below it, and at a whole group while group steps
are taken (42_block_kernel.md R137, R138). -/
structure SequencerIndex (s : State) : Prop where
  inRange : s.seqJ.toNat ≤ s.len.toNat
  busyBelow : s.busy = (s.seqJ != s.len)
  aligned : selectsGroup s = true → s.seqJ.toNat % 4 = 0

theorem State.Inv.sequencerIndex {s : State} (h : s.Inv) (hb : s.busy = true) : SequencerIndex s where
  inRange := (h.indexBelowLen hb).le
  busyBelow := by
    have hne : s.seqJ ≠ s.len := fun he => (h.indexBelowLen hb).ne (congrArg BitVec.toNat he)
    simp [hb, hne]
  aligned := h.groupIndexAligned hb

section
variable {s t : State}

/-- The candidate step ends within `LEN` (42_block_kernel.md R138). -/
theorem SequencerIndex.stepEnd (h : SequencerIndex s) (hb : s.busy = true) :
    s.seqJ.toNat + stepWidth s ≤ s.len.toNat := by
  cases hg : selectsGroup s with
  | true =>
    have halign := h.aligned hg
    obtain ⟨_, hgroup⟩ := (selectsGroup_iff s).mp hg
    rw [stepWidth_group hg]
    omega
  | false =>
    have hle := h.inRange
    have hne : s.seqJ.toNat ≠ s.len.toNat := fun he => by
      simpa [hb, BitVec.eq_of_toNat_eq he] using h.busyBelow
    rw [stepWidth_scalar hg]
    exact Nat.lt_of_le_of_ne hle hne

theorem SequencerIndex.toNat_seqJ (h : SequencerIndex s) (hstep : sequencerStep s = some t) :
    t.seqJ.toNat = s.seqJ.toNat + stepWidth s := by
  obtain ⟨hb, _⟩ := sequencerStep_busy hstep
  have hend := h.stepEnd hb
  have hwidth : (BitVec.ofNat 32 (stepWidth s)).toNat = stepWidth s :=
    Nat.mod_eq_of_lt (by have := s.len.isLt; omega)
  rw [sequencerStep_seqJ hstep, (advanced_index (len := s.len) (by omega)).1, hwidth]

theorem SequencerIndex.sequencerStep (h : SequencerIndex s) (hstep : sequencerStep s = some t) :
    SequencerIndex t := by
  obtain ⟨hb, hbusy⟩ := sequencerStep_busy hstep
  obtain ⟨_, _, hlen, hmode⟩ := sequencerStep_operands hstep
  have hj := h.toNat_seqJ hstep
  refine ⟨?_, ?_, fun hg => ?_⟩
  · rw [hj, hlen]
    exact h.stepEnd hb
  · rw [hbusy, hlen]
  · obtain ⟨hwide, hbelow⟩ := (selectsGroup_iff t).mp hg
    rw [hlen] at hbelow
    have hgroup : selectsGroup s = true := (selectsGroup_iff s).mpr ⟨hmode ▸ hwide, by omega⟩
    have halign := h.aligned hgroup
    have hwidth := stepWidth_group hgroup
    omega

end

/-! ## How far a NEGV has got -/

/-- Bytes of one buffer at different indexes have different addresses. -/
theorem bufferAddr_ne (base : Word) {i j : Nat} (hi : i < 2 ^ 32) (hj : j < 2 ^ 32) (h : i ≠ j) :
    bufferAddr base i ≠ bufferAddr base j := by
  intro he
  have := congrArg BitVec.toNat (add_left_cancel he)
  simp only [BitVec.toNat_ofNat, Nat.mod_eq_of_lt hi, Nat.mod_eq_of_lt hj] at this
  exact h this

/-- In a buffer that does not wrap, byte `j` lies at `base + j`. -/
theorem toNat_bufferAddr {base n : Word} (h : base.toNat + n.toNat ≤ 2 ^ 32) {j : Nat} (hj : j < n.toNat) :
    (bufferAddr base j).toNat = base.toNat + j := by
  rw [bufferAddr, BitVec.toNat_add, BitVec.toNat_ofNat]
  omega

/-- In legal buffers, in place included, a source byte is no destination byte of another index (42_block_kernel.md R141). -/
theorem State.buffersLegal.src_ne_dst {s : State} (h : s.buffersLegal) {i j : Nat} (hi : i < s.len.toNat)
    (hj : j < s.len.toNat) (hij : i ≠ j) : bufferAddr s.src i ≠ bufferAddr s.dst j := by
  have := s.len.isLt
  obtain ⟨hsrc, hdst, hsame | _⟩ := h
  · rw [hsame]
    exact bufferAddr_ne s.dst (by omega) (by omega) hij
  · intro he
    have := congrArg BitVec.toNat he
    rw [toNat_bufferAddr hsrc hi, toNat_bufferAddr hdst hj] at this
    omega

section
variable {m0 : Memory} {s t : State}

/-- A sequencer step moves the elements it processes from `todo` to `done` (42_block_kernel.md R139, R141). -/
theorem NegvProgress.sequencerStep (h : NegvProgress m0 s) (hindex : SequencerIndex s)
    (hstep : sequencerStep s = some t) : NegvProgress m0 t := by
  obtain ⟨hb, _⟩ := sequencerStep_busy hstep
  obtain ⟨hsrc, hdst, hlen, _⟩ := sequencerStep_operands hstep
  have hj := hindex.toNat_seqJ hstep
  have hend := hindex.stepEnd hb
  have hbound := s.len.isLt
  refine ⟨?_, ?_, fun j hjt => ?_, fun j hjt hjl => ?_⟩
  · rw [State.buffersLegal, hsrc, hdst, hlen]
    exact h.legal
  · rw [hj, hlen]
    exact hend
  · rw [hdst, hsrc]
    by_cases hold : j < s.seqJ.toNat
    · rw [sequencerStep_mem_other hstep fun i hi => ?_, h.done j hold]
      rw [dstAddr_eq]
      exact bufferAddr_ne s.dst (by omega) (by omega) (by omega)
    · obtain ⟨i, rfl⟩ := Nat.exists_eq_add_of_le (Nat.le_of_not_lt hold)
      have helement := sequencerStep_mem_element hstep (i := i) (by omega)
      rw [dstAddr_eq, srcAddr_eq] at helement
      rw [helement, h.todo _ (by omega) (by omega)]
  · rw [hlen] at hjl
    rw [hsrc, sequencerStep_mem_other hstep fun i hi => ?_, h.todo j (by omega) hjl]
    rw [dstAddr_eq]
    exact h.legal.src_ne_dst hjl (by omega) (by omega)

/-- Progress speaks of the buffers, the index and the buffers' bytes alone. -/
theorem NegvProgress.of_eq (h : NegvProgress m0 s) (hframe : t.src = s.src ∧ t.dst = s.dst ∧ t.len = s.len)
    (hj : t.seqJ = s.seqJ)
    (hmem : ∀ j, j < s.len.toNat → memByte t.mem (bufferAddr s.src j) = memByte s.mem (bufferAddr s.src j) ∧
      memByte t.mem (bufferAddr s.dst j) = memByte s.mem (bufferAddr s.dst j)) : NegvProgress m0 t := by
  obtain ⟨hsrc, hdst, hlen⟩ := hframe
  have hrange := h.indexInRange
  refine ⟨?_, ?_, fun j hjt => ?_, fun j hjt hjl => ?_⟩
  · rw [State.buffersLegal, hsrc, hdst, hlen]
    exact h.legal
  · rwa [hj, hlen]
  · rw [hj] at hjt
    rw [hdst, hsrc, (hmem j (by omega)).2, h.done j hjt]
  · rw [hj] at hjt
    rw [hlen] at hjl
    rw [hsrc, (hmem j hjl).1, h.todo j hjt hjl]

/-- While busy a host transaction changes neither the operands nor the sequencer's registers, `OPA` or `RES`
(42_block_kernel.md R133, 60_exceptions.md R155). -/
theorem HostEffect.frame_busy {a : HostAction} (he : HostEffect a s t) (hb : s.busy = true) :
    t = { s with
      err := t.err, errCode := t.errCode, mem := t.mem, faults := t.faults, draws := t.draws
      readData := t.readData, host := t.host } := by
  cases he with
  | accepted _ _ _ _ hidle => simp [hb] at hidle
  | polled => rw [pollRound_eq]
  | ignored | raised | cleared | answered | stored => rfl

/-- While busy a host transaction that leaves no mark leaves the bytes of both buffers (20_memory.md R65). -/
theorem HostEffect.mem_buffers_of_clean {a : HostAction} (he : HostEffect a s t) (hb : s.busy = true)
    (hclean : t.clean) {addr : Addr}
    (hbuf : ∃ j, j < s.len.toNat ∧ (addr = bufferAddr s.src j ∨ addr = bufferAddr s.dst j)) :
    memByte t.mem addr = memByte s.mem addr := by
  cases he with
  | accepted _ _ _ _ hidle => simp [hb] at hidle
  | stored x b =>
    obtain ⟨_, hrace⟩ := (FaultSet.union_eq_empty _ _).mp hclean
    have hraces : hostWriteRaces x s = false := congrArg FaultSet.race hrace
    refine memByte_memSet_other _ x addr b fun hx => ?_
    exact absurd ((hostWriteRaces_iff x s).mpr ⟨hb, hx ▸ hbuf⟩) (by simp [hraces])
  | polled => rw [pollRound_eq]
  | ignored | raised | cleared | answered => rfl

/-- A host transaction that leaves no mark keeps the progress of a running `NEGV` (20_memory.md R65). -/
theorem NegvProgress.hostEffect {a : HostAction} (h : NegvProgress m0 s) (hb : s.busy = true)
    (he : HostEffect a s t) (hclean : t.clean) : NegvProgress m0 t := by
  have hframe := he.frame_busy hb
  refine h.of_eq ?_ ?_ fun j hj => ⟨?_, ?_⟩
  · rw [hframe]
    exact ⟨rfl, rfl, rfl⟩
  · rw [hframe]
  · exact he.mem_buffers_of_clean hb hclean ⟨j, hj, .inl rfl⟩
  · exact he.mem_buffers_of_clean hb hclean ⟨j, hj, .inr rfl⟩

end

/-- Settles O39: the sequencer's step and the host's transaction on a busy block keep all seven. -/
theorem operandsAreFixedWhileBusy : Obligations.OperandsAreFixedWhileBusy := by
  intro s t h hb hturn
  rcases step_cases s t h with ⟨hreset, _⟩ | ⟨_, hseq | ⟨a, rest, _, hhost⟩ | rfl⟩
  · exact absurd hreset hturn
  · rw [sequencerStep_frame hseq]
    exact ⟨rfl, rfl, rfl, rfl, rfl, rfl, rfl⟩
  · rw [(hostAction_effect hhost).frame_busy hb]
    exact ⟨rfl, rfl, rfl, rfl, rfl, rfl, rfl⟩
  · exact ⟨rfl, rfl, rfl, rfl, rfl, rfl, rfl⟩

/-- A step other than a reset that leaves no mark keeps the progress of a running `NEGV`. -/
theorem NegvProgress.step {m0 : Memory} {s t : State} (h : NegvProgress m0 s) (hinv : s.Inv) (hb : s.busy = true)
    (hturn : s.turns.head? ≠ some .reset) (hstep : step s = .next t) (hclean : t.clean) : NegvProgress m0 t := by
  have hmove (q : List HostAction) : NegvProgress m0 ((takeTurn s).setHost q) := { h with }
  rcases step_cases s t hstep with ⟨hreset, _⟩ | ⟨_, hseq | ⟨a, rest, _, hhost⟩ | rfl⟩
  · exact absurd hreset hturn
  · exact (hmove s.host).sequencerStep (State.Inv.sequencerIndex hinv.frame hb) hseq
  · exact (hmove rest).hostEffect hb (hostAction_effect hhost) hclean
  · exact hmove s.host

/-- Settles O33: the sequencer's step and the unmarked transaction keep the progress, and `BUSY` falls at `LEN`. -/
theorem everyStepKeepsNegvProgress : Obligations.EveryStepKeepsNegvProgress := by
  intro m0 s t hinv hb h hturn hstep hclean
  have hprogress := h.step hinv hb hturn hstep hclean
  refine ⟨hprogress, fun hfall j hj => ?_⟩
  obtain ⟨hsrc, hdst, _⟩ := operandsAreFixedWhileBusy s t hstep hb hturn
  obtain ⟨_, hend⟩ := ((onlyNegvSetsBusy s t hstep).2 hb hfall).resolve_left hturn
  rw [← hsrc, ← hdst]
  exact hprogress.done j (by rwa [hend])

/-- At a start on legal buffers nothing is done (42_block_kernel.md R133). -/
theorem NegvProgress.start {s : State} (hl : s.len ≠ 0) (hlegal : s.buffersLegal) :
    NegvProgress s.mem (startNegv s) := by
  rw [startNegv_nonempty s hl]
  exact ⟨hlegal, Nat.zero_le _, nofun, fun _ _ _ => rfl⟩

/-- Settles O32: without a mark the buffers are legal. -/
theorem startBeginsProgress : Obligations.StartBeginsProgress := by
  intro s t hb hl h hclean
  obtain rfl := eq_startNegv_of_exec hb h
  refine NegvProgress.start hl ((rangeFaults_eq_empty s).mp ?_)
  rw [State.clean, startNegv_nonempty s hl] at hclean
  exact ((FaultSet.union_eq_empty _ _).mp hclean).2

end Sys2Proof.Machine
end

section
/-!
SUPPORT. The block's own run (42_block_kernel.md R139, R140): how many of its turns a NEGV takes, what they keep, and where
they end in either strategy.
-/

namespace Sys2Proof.Machine

/-! ## Counting the turns -/

/-- What every sequencer step keeps, a block's turn keeps. -/
theorem blockTurn_keeps {P : State → Prop} (hkeep : ∀ s t, P s → sequencerStep s = some t → P t) {s : State}
    (hs : P s) : P (blockTurn s) := by
  rcases blockTurn_cases s with ⟨_, hturn⟩ | hseq
  · rwa [hturn]
  · exact hkeep s _ hs hseq

/-- What every sequencer step keeps, a run of the block's turns keeps. -/
theorem blockRun_keeps {P : State → Prop} (hkeep : ∀ s t, P s → sequencerStep s = some t → P t) (k : Nat) {s : State}
    (hs : P s) : P (blockRun k s) := by
  induction k generalizing s with
  | zero => exact hs
  | succ k ih => exact ih (blockTurn_keeps hkeep hs)

/-- The number of sequencer steps that are left (70_reset_and_hazards.md R189). -/
def stepsLeft (s : State) : Nat := sequencerSteps s.seqMode (s.len - s.seqJ)

section
variable {s t : State}

theorem SequencerIndex.stepsLeft_eq (h : SequencerIndex s) :
    stepsLeft s = if s.seqMode then (s.len.toNat - s.seqJ.toNat) / 4 + (s.len.toNat - s.seqJ.toNat) % 4
      else s.len.toNat - s.seqJ.toNat := by
  rw [stepsLeft, sequencerSteps, BitVec.toNat_sub_of_le h.inRange]

theorem SequencerIndex.busy_eq (h : SequencerIndex s) : s.busy = decide (0 < stepsLeft s) := by
  have hle := h.inRange
  rw [h.busyBelow, h.stepsLeft_eq, bne, beq_eq_decide, ← decide_not, decide_eq_decide, ← BitVec.toNat_inj]
  split <;> omega

theorem SequencerIndex.stepsLeft_sequencerStep (h : SequencerIndex s) (hstep : Machine.sequencerStep s = some t) :
    stepsLeft t + 1 = stepsLeft s := by
  obtain ⟨hb, _⟩ := sequencerStep_busy hstep
  obtain ⟨_, _, hlen, hmode⟩ := sequencerStep_operands hstep
  have hend := h.stepEnd hb
  rw [(h.sequencerStep hstep).stepsLeft_eq, h.stepsLeft_eq, hlen, hmode, h.toNat_seqJ hstep]
  cases hg : selectsGroup s with
  | true =>
    have halign := h.aligned hg
    obtain ⟨hwide, hgroup⟩ := (selectsGroup_iff s).mp hg
    rw [hwide, stepWidth_group hg]
    simp only [if_true]
    omega
  | false =>
    rw [stepWidth_scalar hg] at hend ⊢
    rcases (selectsGroup_eq_false_iff s).mp hg with hscalar | hpast
    · simp only [hscalar, Bool.false_eq_true, if_false]
      omega
    · split <;> omega

/-- On admitted buffers a busy block's step is enabled (42_block_kernel.md R138). -/
theorem SequencerIndex.stepEnabled (h : SequencerIndex s) (ha : s.buffersAdmitted) (hb : s.busy = true) :
    stepEnabled s = true := by
  refine (stepEnabled_iff s).mpr ⟨hb, fun i hi => Bool.and_eq_true_iff.mpr ?_⟩
  rw [srcAddr_eq, dstAddr_eq]
  exact ha _ (by have := h.stepEnd hb; omega)

theorem State.buffersAdmitted.sequencerStep (ha : s.buffersAdmitted) (hstep : Machine.sequencerStep s = some t) :
    t.buffersAdmitted := by
  obtain ⟨hsrc, hdst, hlen, _⟩ := sequencerStep_operands hstep
  rwa [State.buffersAdmitted, hsrc, hdst, hlen, sequencerStep_params hstep]

/-- On admitted buffers each of the block's turns takes one step off, until none is left. -/
theorem SequencerIndex.stepsLeft_blockTurn (h : SequencerIndex s) (ha : s.buffersAdmitted) :
    stepsLeft (blockTurn s) = stepsLeft s - 1 := by
  cases hb : s.busy with
  | true =>
    have := h.stepsLeft_sequencerStep (sequencerStep_blockTurn (h.stepEnabled ha hb))
    omega
  | false =>
    have hnone : ¬ 0 < stepsLeft s := by simpa [hb] using h.busy_eq
    rw [blockTurn_idle hb]
    omega

theorem SequencerIndex.stepsLeft_blockRun (h : SequencerIndex s) (ha : s.buffersAdmitted) (k : Nat) :
    stepsLeft (blockRun k s) = stepsLeft s - k := by
  induction k generalizing s with
  | zero => rfl
  | succ k ih =>
    have hturn : SequencerIndex (blockTurn s) := blockTurn_keeps (fun _ _ => SequencerIndex.sequencerStep) h
    have haturn : (blockTurn s).buffersAdmitted := blockTurn_keeps (fun _ _ => State.buffersAdmitted.sequencerStep) ha
    rw [blockRun, ih hturn haturn, h.stepsLeft_blockTurn ha]
    omega

/-- `BUSY` falls after exactly the steps that are left (70_reset_and_hazards.md R189). -/
theorem SequencerIndex.blockRun_busy (h : SequencerIndex s) (ha : s.buffersAdmitted) (k : Nat) :
    (blockRun k s).busy = decide (k < stepsLeft s) := by
  have hrun : SequencerIndex (blockRun k s) := blockRun_keeps (fun _ _ => SequencerIndex.sequencerStep) k h
  rw [hrun.busy_eq, h.stepsLeft_blockRun ha]
  exact decide_eq_decide.mpr Nat.sub_pos_iff_lt

end

theorem SequencerIndex.start {s : State} (hl : s.len ≠ 0) : SequencerIndex (startNegv s) := by
  rw [startNegv_nonempty s hl]
  exact ⟨Nat.zero_le _, by simpa using hl.symm, fun _ => rfl⟩

theorem stepsLeft_startNegv {s : State} (hl : s.len ≠ 0) :
    stepsLeft (startNegv s) = sequencerSteps s.packedEn s.len := by
  rw [startNegv_nonempty s hl, stepsLeft]
  exact congrArg _ (BitVec.sub_zero s.len)

theorem State.buffersAdmitted.start {s : State} (ha : s.buffersAdmitted) : (startNegv s).buffersAdmitted := by
  rwa [State.buffersAdmitted, startNegv_src, startNegv_dst, startNegv_len, startNegv_params]

/-! ## A whole NEGV -/

/-- What a run that the block alone makes from the start in `s0` keeps: the progress and the index, every byte outside the
destination, and every register but the internal ones and `BUSY` (42_block_kernel.md R139). -/
structure NegvRun (s0 s : State) : Prop where
  progress : NegvProgress s0.mem s
  index : SequencerIndex s
  others : ∀ a, (∀ j, j < s0.len.toNat → a ≠ bufferAddr s0.dst j) → memByte s.mem a = memByte s0.mem a
  frame : s = { s0 with
    mem := s.mem, lg := s.lg, draws := s.draws, seqJ := s.seqJ, seqMode := s0.packedEn, busy := s.busy }

theorem NegvRun.start {s : State} (hl : s.len ≠ 0) (hlegal : s.buffersLegal) : NegvRun s (startNegv s) where
  progress := .start hl hlegal
  index := .start hl
  others _ _ := by rw [startNegv_mem]
  frame := by
    rw [startNegv_nonempty s hl, (rangeFaults_eq_empty s).mpr hlegal, FaultSet.union_empty]

theorem NegvRun.sequencerStep {s0 s t : State} (h : NegvRun s0 s) (hstep : sequencerStep s = some t) :
    NegvRun s0 t where
  progress := h.progress.sequencerStep h.index hstep
  index := h.index.sequencerStep hstep
  others a ha := by
    have hlen : s.len = s0.len := by rw [h.frame]
    have hdst : s.dst = s0.dst := by rw [h.frame]
    obtain ⟨hb, _⟩ := sequencerStep_busy hstep
    have hend := h.index.stepEnd hb
    rw [sequencerStep_mem_other hstep fun i hi => ?_, h.others a ha]
    rw [dstAddr_eq, hdst]
    exact ha _ (by rw [← hlen]; omega)
  frame := by
    rw [sequencerStep_frame hstep, h.frame]

/-- The end of a `NEGV` on legal, admitted buffers (42_block_kernel.md R139, 70_reset_and_hazards.md R189). -/
theorem negvRun_end {s : State} (hl : s.len ≠ 0) (hlegal : s.buffersLegal) (ha : s.buffersAdmitted) :
    NegvRun s (blockRun (sequencerSteps s.packedEn s.len) (startNegv s)) ∧
      (blockRun (sequencerSteps s.packedEn s.len) (startNegv s)).busy = false := by
  refine ⟨blockRun_keeps (fun _ _ => NegvRun.sequencerStep) _ (.start hl hlegal), ?_⟩
  rw [(SequencerIndex.start hl).blockRun_busy ha.start, stepsLeft_startNegv hl]
  exact decide_eq_false (Nat.lt_irrefl _)

/-- Settles O29: the run ends with the index at `LEN`, where the progress is the whole destination. -/
theorem negvEndState : Obligations.NegvEndState := by
  intro s s1 hb hl hlegal ha h
  obtain rfl := eq_startNegv_of_exec hb h
  obtain ⟨hrun, hidle⟩ := negvRun_end hl hlegal ha
  generalize blockRun (sequencerSteps s.packedEn s.len) (startNegv s) = t at hrun hidle
  obtain ⟨hprogress, hindex, hothers, hframe⟩ := hrun
  have hsrc : t.src = s.src := by rw [hframe]
  have hdst : t.dst = s.dst := by rw [hframe]
  have hlen : t.len = s.len := by rw [hframe]
  have hj : t.seqJ = s.len := by simpa [hidle, hlen] using hindex.busyBelow
  refine ⟨t, rfl, hidle, fun j hjl => ?_, hothers, ?_⟩
  · rw [← hsrc, ← hdst]
    exact hprogress.done j (by rwa [hj])
  · exact hframe.trans (by rw [hidle, hj, hb])

/-- Settles O31: both runs end as the contract says, which names the strategy in the internal registers and `CFG` only. -/
theorem strategiesAreEquivalent : Obligations.StrategiesAreEquivalent := by
  intro s w c hb hlegal ha hw hc
  by_cases hl : s.len = 0
  · obtain rfl := eq_startNegv_of_exec (s := { s with packedEn := true }) hb hw
    obtain rfl := eq_startNegv_of_exec (s := { s with packedEn := false }) hb hc
    rw [startNegv_empty { s with packedEn := true } hl, startNegv_empty { s with packedEn := false } hl, hl]
    exact ⟨_, _, rfl, rfl, hb, hb, fun _ => rfl, rfl⟩
  · obtain ⟨tw, hrunw, hidlew, hdonew, hothersw, hframew⟩ :=
      negvEndState { s with packedEn := true } w hb hl hlegal ha hw
    obtain ⟨tc, hrunc, hidlec, hdonec, hothersc, hframec⟩ :=
      negvEndState { s with packedEn := false } c hb hl hlegal ha hc
    refine ⟨tw, tc, hrunw, hrunc, hidlew, hidlec, fun a => ?_, ?_⟩
    · by_cases hin : ∃ j, j < s.len.toNat ∧ a = bufferAddr s.dst j
      · obtain ⟨j, hj, rfl⟩ := hin
        exact (hdonew j hj).trans (hdonec j hj).symm
      · have hout : ∀ j, j < s.len.toNat → a ≠ bufferAddr s.dst j := fun j hj he => hin ⟨j, hj, he⟩
        exact (hothersw a hout).trans (hothersc a hout).symm
    · rw [hframew, hframec]

end Sys2Proof.Machine
end

section
/-!
SUPPORT. The errors (60_exceptions.md): which CMD words raise, what the port refuses while busy, which moves touch `ERR`
and `ERRCODE`, that a recorded error blocks no command, and a host's turn.
-/

namespace Sys2Proof.Machine

/-! ## ILLEGAL_CMD and UNIMPL_CMD -/

/-- The words that fail the check of the reserved bits or of the opcode (60_exceptions.md R154). -/
theorem commandWord_eq_false_iff (v : Word) :
    WellFormed.commandWord v = false ↔ v.toNat / 256 ≠ 0 ∨ v.toNat % 256 = 0 ∨ 6 ≤ v.toNat % 256 := by
  simp only [WellFormed.commandWord, WellFormed.reservedClear, WellFormed.opcodeDefined, Bool.and_eq_false_iff,
    beq_eq_false_iff_ne, decide_eq_false_iff_not]
  omega

/-- A word that decodes passes the check, so one that fails it is rejected (30_encoding.md R74). -/
theorem decodeWord_of_malformed {v : Word} (h : WellFormed.commandWord v = false) : ∃ e, decodeWord v = .error e := by
  cases hd : decodeWord v with
  | error e => exact ⟨e, rfl⟩
  | ok i =>
    obtain ⟨_, hword, _⟩ := commandWord_statement i
    rw [← eq_encode_of_decodeWord hd, h] at hword
    cases hword

/-- Settles O3: the decoder rejects the word, and the idle block raises. -/
theorem wordsOutsideTheMapAreIllegal : Obligations.WordsOutsideTheMapAreIllegal := by
  intro s v hb hv
  obtain ⟨e, hd⟩ := decodeWord_of_malformed ((commandWord_eq_false_iff v).mpr hv)
  exact hostAction_illegalWord hb hd

/-- A CMD write of a command's own word to an idle block runs the command (30_encoding.md R75). -/
theorem hostAction_encode {s : State} (i : Instr) (hb : s.busy = false) :
    hostAction (.regWrite 0x00 4 (encode i)) s = exec i s := hostAction_command hb (decodeWord_encode i)

/-- Words 2, 3 and 4 are the packed commands' (30_encoding.md R75). -/
theorem eq_encode_packedInstr {v : Word} (h : v = 0x00000002 ∨ v = 0x00000003 ∨ v = 0x00000004) :
    ∃ op, v = encode (packedInstr op) := by
  rcases h with rfl | rfl | rfl
  · exact ⟨.neg, rfl⟩
  · exact ⟨.sat, rfl⟩
  · exact ⟨.negs, rfl⟩

/-- With the packed unit, no command raises an error on an idle block (60_exceptions.md R155, R156). -/
theorem exec_errCode_of_present (i : Instr) {s : State} (hb : s.busy = false) (hp : s.params.hasPacked = true) :
    ∃ t, exec i s = .next t ∧ t.errCode = s.errCode := by
  cases i with
  | snegQ7 => exact ⟨_, exec_snegQ7_idle hb, rfl⟩
  | pnegB4 => exact ⟨_, exec_packedInstr_run .neg hb hp, rfl⟩
  | psatB4 => exact ⟨_, exec_packedInstr_run .sat hb hp, rfl⟩
  | pnegsB4 => exact ⟨_, exec_packedInstr_run .negs hb hp, rfl⟩
  | negv => exact ⟨_, exec_negv_idle hb, startNegv_errCode s⟩

/-- With the packed unit, no CMD write to an idle block records code 2 (60_exceptions.md R156). -/
theorem cmdWrite_errCode_of_present {s : State} (v : Word) (hb : s.busy = false) (hp : s.params.hasPacked = true) :
    ∃ t, hostAction (.regWrite 0x00 4 v) s = .next t ∧ (t.errCode = 2 → s.errCode = 2) := by
  cases hd : decodeWord v with
  | ok i =>
    obtain ⟨t, ht, hcode⟩ := exec_errCode_of_present i hb hp
    exact ⟨t, (hostAction_command hb hd).trans ht, fun h => hcode ▸ h⟩
  | error e =>
    refine ⟨_, hostAction_illegalWord hb hd, fun h => ?_⟩
    rw [raiseError_eq] at h
    cases he : s.err with
    | true => simpa [he] using h
    | false => simp [he, errorCodeBits] at h

/-- Settles O18: the packed commands raise without the unit, and with it every command runs. -/
theorem packedWordsNeedThePackedUnit : Obligations.PackedWordsNeedThePackedUnit := by
  refine fun s v hb => ⟨fun hp hv => ?_, fun hp => ⟨?_, ?_, ?_, cmdWrite_errCode_of_present v hb hp⟩⟩
  · obtain ⟨op, rfl⟩ := eq_encode_packedInstr hv
    exact (hostAction_encode _ hb).trans (exec_packedInstr_absent op hb hp)
  · rintro rfl
    exact hostAction_encode .pnegB4 hb
  · rintro rfl
    exact hostAction_encode .psatB4 hb
  · rintro rfl
    exact hostAction_encode .pnegsB4 hb

/-! ## BUSY -/

/-- The registers whose writes are refused while busy (60_exceptions.md R155). -/
def busyGuarded : List Reg := [.cmd, .cfg, .opa, .src, .dst, .len]

/-- While busy the guarded registers refuse a write, and of the others `STATUS` alone takes one (R155). -/
theorem regWrite_busy (r : Reg) (v : Word) {s : State} (hb : s.busy = true) :
    regWrite r v s = .next
      (if r ∈ busyGuarded then raiseError .busy s
      else if r = .status ∧ v.getLsbD 1 = true then clearError s
      else s) := by
  cases r with
  | cmd => exact if_pos hb
  | cfg | opa | src | dst | len => exact congrArg _ (refuseWhileBusy_busy _ s hb)
  | status => simp [regWrite, statusWrite, busyGuarded]
  | cap | res | reserved => rfl

/-- Apart from the reserved offsets, each register has one offset (10_state.md section 1). -/
theorem regAt_eq_iff {r : Reg} (hr : r ≠ .reserved) (off : Nat) : regAt off = r ↔ off = regOffset r := by
  constructor
  · rintro rfl
    unfold regAt at hr ⊢
    split_ifs at hr ⊢ <;> simp_all [regOffset]
  · rintro rfl
    cases r with
    | reserved => exact absurd rfl hr
    | cmd | status | cfg | cap | opa | res | src | dst | len => rfl

theorem regAt_mem_busyGuarded_iff (off : Nat) :
    regAt off ∈ busyGuarded ↔ off ∈ [0x00, 0x08, 0x10, 0x18, 0x1C, 0x20] := by
  simp [busyGuarded, regAt_eq_iff, regOffset]

/-- Settles O44: the registers at the listed offsets are the guarded ones, and `STATUS` is at 0x04. -/
theorem writesWhileBusyAreRefused : Obligations.WritesWhileBusyAreRefused := by
  intro s off v hb h4 hlt
  have hstatus : regAt off = .status ↔ off = 0x04 := regAt_eq_iff (by decide) off
  rw [hostAction_regWrite s off v h4 hlt, regWrite_busy _ v hb, raiseError_eq, clearError_eq]
  simp only [regAt_mem_busyGuarded_iff, hstatus]
  rfl

/-! ## Which moves touch ERR and ERRCODE -/

theorem sequencerStep_error {s t : State} (h : sequencerStep s = some t) : t.err = s.err ∧ t.errCode = s.errCode := by
  rw [sequencerStep_frame h]
  exact ⟨rfl, rfl⟩

/-- An accepted write raises and clears no error. -/
theorem AcceptedWrite.error_eq {r : Reg} {v : Word} {s t : State} (hw : AcceptedWrite r v s t) :
    t.err = s.err ∧ t.errCode = s.errCode := by
  cases hw with
  | start => exact ⟨startNegv_err s, startNegv_errCode s⟩
  | direct | cfg | opa | src | dst | len => exact ⟨rfl, rfl⟩

/-- A host transaction keeps `ERR` and `ERRCODE`, or it is a register write that raises or clears
(60_exceptions.md R150, R159). -/
theorem HostEffect.error_eq_or_regWrite {a : HostAction} {s t : State} (he : HostEffect a s t) :
    (t.err = s.err ∧ t.errCode = s.errCode) ∨
      ((∃ off v, a = .regWrite off 4 v) ∧ ((∃ c, t = raiseError c s) ∨ t = clearError s)) := by
  cases he with
  | raised off v c ha => exact .inr ⟨⟨off, v, ha⟩, .inl ⟨c, rfl⟩⟩
  | cleared off v ha => exact .inr ⟨⟨off, v, ha⟩, .inr rfl⟩
  | accepted _ _ _ _ _ hw => exact .inl hw.error_eq
  | polled => exact .inl (by rw [pollRound_eq]; exact ⟨rfl, rfl⟩)
  | ignored | answered | stored => exact .inl ⟨rfl, rfl⟩

/-- Settles O42: of the moves of `step_cases`, the reset and the host's register write alone touch the error. -/
theorem onlyRegisterWritesTouchErrors : Obligations.OnlyRegisterWritesTouchErrors := by
  intro s t h hne
  have hkept : ¬ (t.err = s.err ∧ t.errCode = s.errCode) := not_and_or.mpr hne
  rcases step_cases s t h with ⟨hreset, _⟩ | ⟨_, hseq | ⟨a, rest, hqueue, hhost⟩ | rfl⟩
  · exact .inl hreset
  · exact absurd (sequencerStep_error hseq) hkept
  · rcases (hostAction_effect hhost).error_eq_or_regWrite with hsame | ⟨⟨off, v, rfl⟩, _⟩
    · exact absurd hsame hkept
    · exact .inr ⟨off, v, rest, hqueue⟩
  · exact absurd ⟨rfl, rfl⟩ hkept

/-- A second error is not recorded (60_exceptions.md R153). -/
theorem raiseError_errCode_of_err {s : State} (c : ErrorCode) (h : s.err = true) :
    (raiseError c s).errCode = s.errCode := if_pos h

/-- Settles O43: a further error leaves the code, and a reset or a clearing write drops `ERR`. -/
theorem firstErrorCodeStays : Obligations.FirstErrorCodeStays := by
  intro s t h hs ht
  rcases step_cases s t h with ⟨_, rfl⟩ | ⟨_, hseq | ⟨a, rest, _, hhost⟩ | rfl⟩
  · cases ht
  · exact (sequencerStep_error hseq).2
  · rcases (hostAction_effect hhost).error_eq_or_regWrite with ⟨_, hcode⟩ | ⟨_, ⟨c, rfl⟩ | rfl⟩
    · exact hcode
    · exact raiseError_errCode_of_err c hs
    · cases ht
  · rfl

/-! ## Errors do not block -/

/-- The states agree but for the error they have recorded. -/
def AgreeButErrors (t u : State) : Prop := ∃ e c, u = { t with err := e, errCode := c }

/-- `run` does the same with any error recorded, but for what is recorded (60_exceptions.md R160). -/
def ErrorBlind (run : State → State) : Prop := ∀ s u, AgreeButErrors s u → AgreeButErrors (run s) (run u)

theorem raiseError_errorBlind (code : ErrorCode) : ErrorBlind (raiseError code) := by
  rintro s _ ⟨e, c, rfl⟩
  exact ⟨_, _, rfl⟩

/-- A direct command's result is a function of `OPA` (30_encoding.md R73). -/
theorem setRes_opa_errorBlind (f : Word → Word) : ErrorBlind (fun s => s.setRes (f s.opa)) := by
  rintro s _ ⟨e, c, rfl⟩
  exact ⟨e, c, rfl⟩

theorem startNegv_errorBlind : ErrorBlind startNegv := by
  rintro s _ ⟨e, c, rfl⟩
  refine ⟨e, c, ?_⟩
  by_cases hl : s.len = 0
  · rw [startNegv_empty s hl, startNegv_empty { s with err := e, errCode := c } hl]
  · rw [startNegv_nonempty s hl, startNegv_nonempty { s with err := e, errCode := c } hl]
    rfl

section
variable {run : State → State}

/-- The guard of `BUSY` looks at no error. -/
theorem ErrorBlind.refuseWhileBusy (h : ErrorBlind run) : ErrorBlind (Machine.refuseWhileBusy run) := by
  intro s u hagree
  have hbusy : u.busy = s.busy := by obtain ⟨e, c, rfl⟩ := hagree; rfl
  cases hb : s.busy with
  | true =>
    rw [refuseWhileBusy_busy run s hb, refuseWhileBusy_busy run u (hbusy.trans hb)]
    exact raiseError_errorBlind .busy s u hagree
  | false =>
    rw [refuseWhileBusy_idle run s hb, refuseWhileBusy_idle run u (hbusy.trans hb)]
    exact h s u hagree

/-- Nor does the guard of the packed unit. -/
theorem ErrorBlind.requirePacked (h : ErrorBlind run) : ErrorBlind (Machine.requirePacked run) := by
  intro s u hagree
  have hparams : u.params = s.params := by obtain ⟨e, c, rfl⟩ := hagree; rfl
  cases hp : s.params.hasPacked with
  | true =>
    rw [requirePacked_present run s hp, requirePacked_present run u (hparams ▸ hp)]
    exact h s u hagree
  | false =>
    rw [requirePacked_absent run s hp, requirePacked_absent run u (hparams ▸ hp)]
    exact raiseError_errorBlind .unimplCmd s u hagree

end

theorem packedCommand_errorBlind (op : PackedOp) : ErrorBlind (packedCommand op) :=
  (setRes_opa_errorBlind (packedUnit op)).requirePacked.refuseWhileBusy

/-- Every command is an error-blind function of the state. -/
theorem exec_errorBlind (i : Instr) : ∃ run, ErrorBlind run ∧ ∀ s, exec i s = .next (run s) := by
  cases i with
  | snegQ7 =>
    exact ⟨_, (setRes_opa_errorBlind fun w => sext32 (scalarUnit (lane w 0))).refuseWhileBusy, fun _ => rfl⟩
  | pnegB4 => exact ⟨_, packedCommand_errorBlind .neg, fun _ => rfl⟩
  | psatB4 => exact ⟨_, packedCommand_errorBlind .sat, fun _ => rfl⟩
  | pnegsB4 => exact ⟨_, packedCommand_errorBlind .negs, fun _ => rfl⟩
  | negv => exact ⟨_, startNegv_errorBlind.refuseWhileBusy, fun _ => rfl⟩

/-- Settles O45: no command looks at the error. -/
theorem errorsDoNotBlock : Obligations.ErrorsDoNotBlock := by
  intro i s e c
  obtain ⟨run, hblind, hexec⟩ := exec_errorBlind i
  obtain ⟨e', c', hagree⟩ := hblind s { s with err := e, errCode := c } ⟨e, c, rfl⟩
  exact ⟨run s, { run s with err := e', errCode := c' }, hexec s, hagree ▸ hexec _, rfl⟩

/-! ## A host's turn -/

/-- A host's turn with no transaction waiting only passes (log 12). -/
theorem step_hostTurn_empty {s : State} {ts : List Turn} (ht : s.turns = .host :: ts) (hh : s.host = []) :
    step s = .next (s.setTurns ts) := by
  simp [step, nextTurn, ht, grantedTurn, hostTurn, hh]

/-- Settles O58: the two ways to a host's move, and the turn that passes. -/
theorem hostTurnDoesTheFirstTransaction : Obligations.HostTurnDoesTheFirstTransaction := fun _ =>
  ⟨fun _ _ hh => ⟨fun _ ht => step_hostTurn ht hh, fun ht hq => step_defaultHost ht hq hh⟩,
    fun hh _ ht => step_hostTurn_empty ht hh⟩

end Sys2Proof.Machine
end

section
/-!
SUPPORT. The reset (70_reset_and_hazards.md R180) as an event and as a state, and the step counts of a NEGV (R189).
-/

namespace Sys2Proof.Machine

/-! ## The step counts -/

/-- Settles O30: at the start every step of the strategy is left, and each of the block's turns takes one off. -/
theorem negvStepCounts : Obligations.NegvStepCounts := by
  intro s s1 k hb hl ha h
  obtain rfl := eq_startNegv_of_exec hb h
  rw [(SequencerIndex.start hl).blockRun_busy ha.start, stepsLeft_startNegv hl, sequencerSteps]

/-! ## The reset event -/

/-- The reset input is served at any step, in the state its turn has been taken from (70_reset_and_hazards.md R180). -/
theorem step_reset {s : State} {ts : List Turn} (ht : s.turns = .reset :: ts) :
    step s = .next (resetEvent (s.setTurns ts)) := by
  simp [step, nextTurn, ht, grantedTurn]

/-- `STATUS` reads as 0 with `BUSY`, `ERR` and `ERRCODE` at 0: its other bits have no storage (10_state.md R25). -/
theorem statusWord_eq_zero {s : State} (hb : s.busy = false) (he : s.err = false) (hc : s.errCode = 0) :
    statusWord s = 0 := by
  rw [statusWord, hb, he, hc]
  rfl

/-- Settles O56: the step is `resetEvent`, whose error and busy bits give `STATUS`, and which keeps what gives `CAP`. -/
theorem resetEventEffect : Obligations.ResetEventEffect := by
  intro s ts ht
  refine ⟨_, step_reset ht, ?_, statusWord_eq_zero rfl rfl rfl, capWord_eq _⟩
  rw [resetEvent_eq]
  rfl

/-! ## The reset state -/

/-- Settles O57: each value is the field's own in `State.resetWith`. -/
theorem resetStateValues : Obligations.ResetStateValues := fun p =>
  ⟨State.resetWith p, rfl, rfl, rfl, rfl, rfl, rfl, rfl, rfl, rfl, rfl, rfl, rfl, rfl, rfl, rfl, rfl⟩

/-- Settles O35: nothing is written, no error is recorded, and the clauses about the modes and about a busy block have no
case, since `PACKED_EN`, `SEQ_MODE` and `BUSY` are 0. -/
theorem resetMeetsTheInvariant : Obligations.ResetMeetsTheInvariant := fun p =>
  { memCanonical := Memory.wf_resetWith p
    errCodeLegal := Nat.zero_le 3
    errMatchesCode := iff_of_true rfl rfl
    packedNeedsUnit := nofun
    modeNeedsUnit := nofun
    indexBelowLen := nofun
    groupIndexAligned := nofun }

end Sys2Proof.Machine
end
